-- ==== Sys2Proof/Word.lean ====
section
/-!
DEFINITION. The word types of the tray and their plainest arithmetic: bytes, 32-bit register words, 64-bit
raster times and sync objects, little-endian byte lists (R12).
-/
namespace Sys2Proof

/-- One byte. -/
abbrev Byte := BitVec 8
/-- One register word (R6). -/
abbrev Word := BitVec 32
/-- A 64-bit raster timestamp or sync object (R15, R211). -/
abbrev DWord := BitVec 64
/-- One of the four compute dies (R40). -/
abbrev Die := Fin 4
/-- A queue number of a die (R162); the Prilliner function uses 0 to 3 of them. -/
abbrev QIdx := Fin 32

/-- The bits hi..lo of a word, as a natural number. -/
def field (w : Word) (hi lo : Nat) : Nat := (w.toNat >>> lo) % 2 ^ (hi + 1 - lo)

/-- Bit i of a word. -/
def bitAt (w : Word) (i : Nat) : Bool := w.getLsbD i

/-- The word with bits hi..lo replaced by the low bits of v. -/
def setField (w : Word) (hi lo v : Nat) : Word :=
  let m := BitVec.ofNat 32 ((2 ^ (hi + 1 - lo) - 1) <<< lo)
  (w &&& ~~~ m) ||| BitVec.ofNat 32 ((v % 2 ^ (hi + 1 - lo)) <<< lo)

/-- The word with bit i set to b. -/
def setBit (w : Word) (i : Nat) (b : Bool) : Word := setField w i i (if b then 1 else 0)

/-- 1 for true, 0 for false. -/
def b2n (b : Bool) : Nat := if b then 1 else 0

/-- n bytes of v, least significant first (R12). -/
def leBytes : Nat → Nat → List Byte
  | 0, _ => []
  | n + 1, v => BitVec.ofNat 8 v :: leBytes n (v / 256)

/-- n bytes of v, most significant first: the management-port wire (R12, R68). -/
def beBytes (n v : Nat) : List Byte := (leBytes n v).reverse

/-- The natural number that a little-endian byte list spells (R12). -/
def leNat : List Byte → Nat
  | [] => 0
  | b :: bs => b.toNat + 256 * leNat bs

/-- The little-endian number in the n bytes of bs from offset o; bytes beyond the list count as zero. -/
def leAt (bs : List Byte) (o n : Nat) : Nat := leNat ((bs.drop o).take n)

/-- Byte o of a byte list, zero beyond its end. -/
def byteAt (bs : List Byte) (o : Nat) : Nat := leAt bs o 1

/-- The smaller of n and m: counters that saturate at m. -/
def satAt (m n : Nat) : Nat := if n ≤ m then n else m

/-- ⌈a / b⌉ on naturals, 0 when b is 0. -/
def ceilDiv (a b : Nat) : Nat := if b = 0 then 0 else (a + b - 1) / b

/-- The two's complement value of the low n bits of v. -/
def signedOf (n v : Nat) : Int :=
  let u := v % 2 ^ n
  if u < 2 ^ (n - 1) then (u : Int) else (u : Int) - (2 ^ n : Nat)

/-- The n-bit two's complement code of an integer. -/
def codeOf (n : Nat) (i : Int) : Nat := (i % ((2 ^ n : Nat) : Int)).toNat

end Sys2Proof
end

