-- ==== Sys2Proof/Syntax.lean ====
section
/-!
DEFINITION. The commands of the block: one constructor of Instr per row of spec/opcode_table.json, in the table's order.
Operands are what the spec lets a row depend on from outside: frame bytes, register addresses and values, measured
samples, bus data, and times. A time is the tray's own wall time in raster-tracker ticks of 2.5 ns (02_raster_time,
Parts; assumption log 1).
-/
namespace Sys2Proof

/-- A PCIe function of the tray (R412): die d or the Prilliner. -/
inductive Fn where
  | die (d : Die)
  | pf
  deriving DecidableEq, Repr

/-- The engines of a die (R162). The PANEL engine is the Prilliner's (R346). -/
inductive Engine where
  | compute | copy | page | panel
  deriving DecidableEq, Repr

/-- Why a frame is discarded (R75). -/
inductive DiscardKind where
  | badOpcode   -- first byte is no opcode of the frame table
  | badLength   -- MCS_N rose anywhere but at the end of the expected length
  deriving DecidableEq, Repr

/-- A discarded frame: why, and the bytes on MOSI from where MCS_N falls to where it rises (R75). -/
structure Discarded where
  kind : DiscardKind
  mosi : List Byte
  deriving DecidableEq, Repr

/-- An edge of a reference input (R45). -/
inductive EdgeDir where
  | rising | falling
  deriving DecidableEq, Repr

/-- The register space a REGISTER_WRITE names: the management map, or BAR0 of a function (R6). -/
inductive RegSpace where
  | mgmt
  | bar0 (fn : Fn)
  deriving DecidableEq, Repr

/-- A line or lead that failed its integrity test (R131): its number within the group (rows 0-7, columns 8-15;
tray group: channel offset 0-8), whether it returned the short code, and the test return in mV. -/
structure LineFail where
  line : Nat
  short : Bool
  mV : Nat
  deriving DecidableEq, Repr

/-- What a memory read met at a unit (R147, R149). -/
inductive EccResult where
  | ok | corrected | uncorrectable
  deriving DecidableEq, Repr

/-- A fault that an access of the running step meets, found by the hardware outside the address rules: an ECC event at a
unit (R147, R149), an accumulator or staging error (R147), a link that goes down in flight (R145), or a host read that
ends in UR or CA (R426). An address is the device address that the access names. -/
inductive AccessEvent where
  | none
  | corrected (addr : Nat)
  | uncorrectable (addr : Nat)
  | arrayError (core : Nat) (array : Nat)
  | stagingError (core : Nat) (part : Nat)
  | linkLost (k : Fin 4)
  | hostAbort (addr : Nat)
  | hostPoison (addr : Nat)
  deriving DecidableEq, Repr

/-- Something that reads memory (a queue whose command reads, a die's page engine), and what its reads meet (R147). -/
structure Reader (α : Type) where
  who : α
  met : AccessEvent
  deriving DecidableEq, Repr

/-- An access on a pair data port (R383): a write, or a read with what it meets (R147). -/
inductive PortAccess where
  | write
  | read (met : AccessEvent)
  deriving DecidableEq, Repr

/-- The end of a verification: whether the store answered its reads (R438), and the PAIR_SEL strap, which the reset into a passed
firmware samples (R432, R439). -/
structure VerifyEnd where
  storeOk : Bool
  pairSel : Bool
  deriving DecidableEq, Repr

/-- Which SRAM of the Prilliner an uncorrectable error falls in (R404, R405). -/
inductive SramRegion where
  | pixel | waveform | work | cores
  deriving DecidableEq, Repr

/-- Which monitor a self-test found failed (R402): a thermal converter (group 0-4), the sag comparator, the overvoltage
comparator, or the monitor of a rail. -/
inductive MonitorId where
  | thermal (g : Fin 5)
  | sag
  | overvoltage
  | rail (k : Fin 6)
  deriving DecidableEq, Repr

/-- What a die's raise from Midnight meets (R443). The failing tier 0 layer may be known with its core, as in R42's example; layer 255
is one that is not resolved. -/
inductive RaiseResult where
  | ok
  | repairTier0 (core : Option (Fin 128)) (layer : Nat)
  | repairStaging (core part : Nat)
  | repairArray (core array : Nat)
  | tier1Untrained (channel : Nat)
  | pcieUntrained
  | linkUntrained (k : Fin 3)
  | pcieReduced (speed width : Nat)   -- its switch port trained below 64 GT/s x16 (R413)
  deriving DecidableEq, Repr

/-- The parts of a function's configuration space that the spec names (R412, R415, R423, R426); PCIe's own offsets are
not in the spec, so a request names the part. -/
inductive CfgReg where
  | vendorDevice | classCode | subsystem | serial
  | command          -- Command register: bit 0 Bus Master Enable
  | bar0 | bar2
  | bar2Size         -- Resizable BAR: log2 of the BAR2 size (R410)
  | msixControl      -- bit 0 MSI-X Enable (R424)
  | devControl       -- bit 0 Enable Relaxed Ordering (R423)
  | devControl2      -- completion timeout value (R426)
  | portLinkStatus   -- Link Status of the switch port before the function (R413)
  | upLinkStatus     -- Link Status of the switch's upstream port (R413)
  | portIdentity | portClass   -- of that downstream port (R412)
  | upIdentity | upClass       -- of the upstream port (R412)
  | acsRedirect      -- ACS P2P Request Redirect of that downstream port (R416)
  deriving DecidableEq, Repr

/-- A write of one word of BAR0 or the management map, and the commands of the block. -/
inductive Instr where
  | read (addr : BitVec 16) (crc : Byte)
  | write (addr : BitVec 16) (data : Word) (crc : Byte)
  | status (crc : Byte)
  | burstRead (addr : BitVec 16) (n : Byte) (crc : Byte)
  | burstWrite (addr : BitVec 16) (n : Byte) (data : List Word) (crc : Byte)
  | fifoWrite (addr : BitVec 16) (n : Byte) (data : List Word) (crc : Byte)
  | reread (crc : Byte)
  | discardedFrame (f : Discarded)
  | mrstNReset (lowNs : Nat) (pairSel : Bool)
  | mcsNWake
  | mtBoundary (t : Nat) (trayPower : Nat) (diePower : Vector Nat 4) (stopOk : Vector Bool 4)
  | registerWrite (sp : RegSpace) (addr : Nat) (val : Word)
  | commit
  | lock (applied : Bool)
  | quiesceReport (d : Die)
  | lineRefEdge (t : Nat) (e : EdgeDir)
  | frameRefEdge (t : Nat) (e : EdgeDir)
  | lineMissing (t : Nat)
  | referenceLoss (t : Nat)
  | referenceStop (t : Nat)
  | trayLineStart (t : Nat)
  | rasterPulse (d : Die)
  | mtMark (d : Die)
  | rasModeChange (mode : BitVec 2)
  | paceParamChange (period : Word) (lines : BitVec 12)
  | setFrame
  | acceptGeom
  | supplySample (vbus ibus vres : Nat)
  | sagWarn
  | sagWarnRelease
  | sagReset
  | sagResetRelease
  | overvoltageReset
  | vresCollapse
  | powerOnReset (pairSel : Bool)
  | powerStateRequest (d : Die) (target : BitVec 3) (stopLineOk : Bool)
  | powerStateReached (d : Die) (r : RaiseResult)
  | sleep
  | sleepEntryDone
  | wakeTimerExpiry
  | perstNRise
  | perstNFall
  | idleReturn (d : Die)
  | thermalScan (t : Nat) (g : Fin 5) (codes : List (BitVec 10)) (bad : List LineFail)
  | thmSample (t : Nat) (codes : List (BitVec 10)) (bad : List (Fin 5 × LineFail))
  | thermalRearm (code : BitVec 16)
  | hostThermalAck (code : BitVec 16)
  | tidemarkRecordWrite (ok0 ok1 : Bool)
  | logCapture (index : BitVec 11) (slotBusy : Bool)
  | logCaptureDone
  | patrolScrub (d : Die) (tier1 : Bool) (unit : Nat) (r : EccResult) (passDone : Bool)
  | linkDown (d : Die) (k : Fin 4)
  | linkRetrain (d : Die) (k : Fin 4)
  | poolWrite (d : Die) (size : Bool) (val : Word)
  | watermarkWrite (d : Die) (val : Word)
  | bar2Read (fn : Fn) (off n : Nat) (ev : AccessEvent)
  | bar2Write (fn : Fn) (off : Nat) (data : List Byte) (ep : Bool)
  | apertureMove (d : Die) (high : Bool) (val : Word)
  | pairPortRequest (d : Die) (a : PortAccess) (addr n : Nat) (data : List Byte)
  | configRequest (fn : Fn) (r : CfgReg) (wr : Option Nat)
  | doorbell (fn : Fn) (q : QIdx) (tail : Word) (width : Nat)
  | commandFetch (fn : Fn) (q : QIdx) (ev : AccessEvent)
  | enable (fn : Fn) (q : QIdx)
  | disable (fn : Fn) (q : QIdx)
  | resume (fn : Fn) (q : QIdx)
  | rebind (fn : Fn) (q : QIdx)
  | reset (fn : Fn) (q : QIdx)
  | queueConfigWrite (fn : Fn) (q : QIdx) (off : Nat) (val : Word)
  | cmdDescBaseWrite (d : Die) (high : Bool) (val : Word)
  | cplHeadWrite (fn : Fn) (q : QIdx) (val : Word)
  | descriptorRead (fn : Fn) (q : Reader QIdx)
  | nop (fn : Fn) (q : QIdx)
  | gemm (d : Die) (q : QIdx)
  | conv3d (d : Die) (q : QIdx)
  | attend (d : Die) (q : QIdx)
  | attendBwd (d : Die) (q : QIdx)
  | stats (d : Die) (q : QIdx)
  | eltwise (d : Die) (q : QIdx)
  | panelClassify (d : Die) (q : QIdx)
  | copy (d : Die) (q : QIdx)
  | fill (d : Die) (q : QIdx)
  | convert (d : Die) (q : QIdx)
  | transpose (d : Die) (q : QIdx)
  | map (d : Die) (q : QIdx)
  | share (d : Die) (q : QIdx)
  | cow (d : Die) (q : QIdx)
  | spill (d : Die) (q : QIdx)
  | prefetch (d : Die) (q : QIdx)
  | evict (d : Die) (q : QIdx)
  | shadow (d : Die) (q : QIdx)
  | compact (d : Die) (q : QIdx)
  | update (q : Fin 4)
  | park (q : Fin 4)
  | history (q : Fin 4)
  | waveformLoad (q : Fin 4)
  | readState (q : Fin 4)
  | executionStepEnd (fn : Fn) (eng : Engine) (last : Bool) (ev : AccessEvent)
  | commandComplete (fn : Fn) (q : QIdx) (busyDc : Nat) (recordOk : Bool)
  | preemption (d : Die) (eng : Engine)
  | preemptRestore (d : Die) (eng : Engine)
  | waitTimeout (fn : Fn) (q : QIdx)
  | weirAgeing (d : Die) (q : QIdx)
  | globalSignal (src : Fn)
  | globalNotify (g : Fin 64) (dst : Fn)
  | hostSignal (d : Die) (obj : BitVec 9) (v : DWord)
  | syncValCapture (d : Die) (obj : BitVec 9)
  | cmdRasterCapture (d : Die)
  | waiterArm (d : Die) (w : Fin 32) (ctrl : Word)
  | autoSpill (d : Reader Die)
  | pageFill (d : Die) (q : Reader QIdx)
  | pageEnable (d : Die) (val : Word)
  | panelScanFrame
  | panelEnable (val : Word)
  | parkAll
  | stopAll
  | hvArm (val : Word)
  | hvPowerUp
  | hvRailsUp
  | hvPowerDown
  | hvRailsDown
  | hvFault (rail : Fin 5) (cause : Fin 7) (reading : Int)
  | hvRetryExpiry
  | hvAttemptsClear
  | vresLow
  | hvRearm (code : BitVec 16)
  | kickbackStart (frames : BitVec 4)
  | kickbackDone (sensed : List Int)
  | tripCardDraw
  | beat (t : Nat) (frame : List Byte)
  | sleepFrame (t : Nat) (frame : List Byte)
  | wakeFrame (t : Nat) (frame : List Byte)
  | unpairFrame (t : Nat) (frame : List Byte)
  | peerLoss (t : Nat)
  | confirmDown (check : BitVec 16)
  | unpair
  | clearClaim
  | retry
  | checkpointReport (d : Die)
  | bridgeMessage (d : Die)
  | dieBridgeEvent (d : Die)
  | lockstepMismatch
  | watchdogExpiry (missed : Nat)
  | clockFault
  | safeRestart (lockstepOk clockOk : Bool)
  | monitorSelfTest (failed : List MonitorId)
  | controllerSilent
  | clear
  | kick
  | mark
  | mgmtSramUe (region : SramRegion) (unit : Nat)
  | imgOpen (target : BitVec 2)
  | imageDataWrite (w : Word)
  | verify
  | imageVerified (v : VerifyEnd)
  | abort
  | firmwareStart (lockstepOk clockOk : Bool)
  | microcodeVerified
  | flr (fn : Fn)
  | pairFrameInvalid (t : Nat) (frame : List Byte)
  | bar0RcRead (fn : Fn) (off : Nat)
  | vresRecovered
  | completionTimeout (d : Die) (q : QIdx)
  deriving DecidableEq, Repr

end Sys2Proof
end

