-- ==== Sys2Proof/Decode.lean ====
section
/-!
DEFINITION. The words of spec/opcode_table.json. The table gives no row any bits, so no word spells a command; a frame of
the management port arrives as the command itself, with its fields (assumption log 8).
-/
namespace Sys2Proof

/-- The command that a word of the table spells: none, for the table gives no row bits. -/
def decodeTableWord (_nbits _w : Nat) : Option Instr := none

end Sys2Proof
end

