-- ==== Sys2Proof/Config.lean ====
section
/-!
DEFINITION. What one manufactured tray fixes (fuses, the mask-ROM key) and the free values of what the spec leaves open.
Every name here is opaque: it has no body, so nothing can be proved about its value (assumption log 2, 7).
-/
namespace Sys2Proof.Config

open Sys2Proof

/-- The tray serial, fused at manufacture (R39). -/
opaque traySerial : DWord
/-- The serial of die d, fused at manufacture (R39). -/
opaque dieSerial : Die → DWord
/-- ID_REVISION.prilliner_rev (fuse). -/
opaque prillinerRev : Byte
/-- ID_REVISION.tray_rev (fuse). -/
opaque trayRev : Byte
/-- The anti-rollback minimum of the major version, fused into the Prilliner (R437). -/
opaque rollbackMin : Nat
/-- The mask-ROM ECDSA P-256 public key, x and y (R436). -/
opaque romKeyX : Nat
opaque romKeyY : Nat

/-- A free truth value for the n-th open choice (assumption log 7). -/
opaque freeBit : Nat → Bool
/-- A free byte for the n-th open choice (assumption log 7). -/
opaque freeByte : Nat → Byte
/-- A free natural number for the n-th open choice (assumption log 7). -/
opaque freeNat : Nat → Nat

/-- A free natural number for place k of the n-th open choice (assumption log 7). -/
opaque freeAt : Nat → Nat → Nat

/-- Whether HV_ENERGY rounds an amount upwards (R363, R365 do not state it; assumption log 7). -/
opaque energyUp : Bool

/-- The built-in font of the trip card, whose shapes are informative (R368): the pixel (column, row) of a character's cell is
black. -/
opaque glyph : Byte → Nat → Nat → Bool

/-- The order in which FAST mode pairs partials: the n-th draw picks which two of k remaining partials are added (R233). -/
opaque pairing : Nat → Nat → Nat × Nat

end Sys2Proof.Config
end

