-- ==== Sys2Proof/Machine/RegMap.lean ====
section
/-!
DEFINITION. The management register map: the address of each register (R93), and one row per register with its access
masks (R6), its reset word (R10) and its flags I, D and L (R93), from the register tables of the owning chapters.
-/
namespace Sys2Proof.Machine

open Sys2Proof

namespace R

/-- Address of ID_DEVICE. -/
abbrev ID_DEVICE : Nat := 0x000
/-- Address of ID_REVISION. -/
abbrev ID_REVISION : Nat := 0x001
/-- Address of ID_TRAY_SERIAL_LO. -/
abbrev ID_TRAY_SERIAL_LO : Nat := 0x002
/-- Address of ID_TRAY_SERIAL_HI. -/
abbrev ID_TRAY_SERIAL_HI : Nat := 0x003
/-- Address of ID_DIE_SERIAL_LO. -/
abbrev ID_DIE_SERIAL_LO : Nat := 0x004
/-- Address of ID_DIE_SERIAL_HI. -/
abbrev ID_DIE_SERIAL_HI : Nat := 0x005
/-- Address of ID_FW_VERSION. -/
abbrev ID_FW_VERSION : Nat := 0x00C
/-- Address of ID_UCODE_VERSION. -/
abbrev ID_UCODE_VERSION : Nat := 0x00D
/-- Address of ID_STRAPS. -/
abbrev ID_STRAPS : Nat := 0x00E
/-- Address of MG_STATE. -/
abbrev MG_STATE : Nat := 0x010
/-- Address of MG_TICK. -/
abbrev MG_TICK : Nat := 0x011
/-- Address of MG_PORT_STAT. -/
abbrev MG_PORT_STAT : Nat := 0x012
/-- Address of MG_PORT_ERR. -/
abbrev MG_PORT_ERR : Nat := 0x013
/-- Address of MG_SCRATCH. -/
abbrev MG_SCRATCH : Nat := 0x014
/-- Address of MG_RESET_CAUSE. -/
abbrev MG_RESET_CAUSE : Nat := 0x015
/-- Address of MG_IMG_CTRL. -/
abbrev MG_IMG_CTRL : Nat := 0x016
/-- Address of MG_IMG_ADDR. -/
abbrev MG_IMG_ADDR : Nat := 0x017
/-- Address of MG_IMG_DATA. -/
abbrev MG_IMG_DATA : Nat := 0x018
/-- Address of MG_IMG_STATUS. -/
abbrev MG_IMG_STATUS : Nat := 0x019
/-- Address of ALERT_SRC. -/
abbrev ALERT_SRC : Nat := 0x020
/-- Address of ALERT_MASK. -/
abbrev ALERT_MASK : Nat := 0x021
/-- Address of ALERT_PORT. -/
abbrev ALERT_PORT : Nat := 0x022
/-- Address of ALERT_RAS. -/
abbrev ALERT_RAS : Nat := 0x023
/-- Address of CFG_CMD. -/
abbrev CFG_CMD : Nat := 0x030
/-- Address of CFG_EPOCH. -/
abbrev CFG_EPOCH : Nat := 0x031
/-- Address of CFG_DIGEST_LO. -/
abbrev CFG_DIGEST_LO : Nat := 0x032
/-- Address of CFG_DIGEST_HI. -/
abbrev CFG_DIGEST_HI : Nat := 0x033
/-- Address of CFG_STATUS. -/
abbrev CFG_STATUS : Nat := 0x034
/-- Address of SUP_STATUS. -/
abbrev SUP_STATUS : Nat := 0x040
/-- Address of SUP_VBUS. -/
abbrev SUP_VBUS : Nat := 0x041
/-- Address of SUP_IBUS. -/
abbrev SUP_IBUS : Nat := 0x042
/-- Address of SUP_PBUS. -/
abbrev SUP_PBUS : Nat := 0x043
/-- Address of SUP_SAG_WARN. -/
abbrev SUP_SAG_WARN : Nat := 0x044
/-- Address of SUP_SAG_RESET. -/
abbrev SUP_SAG_RESET : Nat := 0x045
/-- Address of SUP_ALERT. -/
abbrev SUP_ALERT : Nat := 0x046
/-- Address of SUP_MIN_VBUS. -/
abbrev SUP_MIN_VBUS : Nat := 0x047
/-- Address of SUP_EVENTS. -/
abbrev SUP_EVENTS : Nat := 0x048
/-- Address of PWR_CTRL. -/
abbrev PWR_CTRL : Nat := 0x050
/-- Address of PWR_STATE. -/
abbrev PWR_STATE : Nat := 0x051
/-- Address of PWR_WAKE_EN. -/
abbrev PWR_WAKE_EN : Nat := 0x052
/-- Address of PWR_WAKE_SRC. -/
abbrev PWR_WAKE_SRC : Nat := 0x053
/-- Address of PWR_LIMIT. -/
abbrev PWR_LIMIT : Nat := 0x054
/-- Address of PWR_DIE_LIMIT. -/
abbrev PWR_DIE_LIMIT : Nat := 0x055
/-- Address of PWR_ALERT. -/
abbrev PWR_ALERT : Nat := 0x056
/-- Address of PWR_DIE0. -/
abbrev PWR_DIE0 : Nat := 0x057
/-- Address of THM_CTRL. -/
abbrev THM_CTRL : Nat := 0x080
/-- Address of THM_STATUS. -/
abbrev THM_STATUS : Nat := 0x081
/-- Address of THM_THROTTLE. -/
abbrev THM_THROTTLE : Nat := 0x082
/-- Address of THM_TRIP. -/
abbrev THM_TRIP : Nat := 0x083
/-- Address of THM_ROR. -/
abbrev THM_ROR : Nat := 0x084
/-- Address of THM_HOTTEST. -/
abbrev THM_HOTTEST : Nat := 0x085
/-- Address of THM_CH_SEL. -/
abbrev THM_CH_SEL : Nat := 0x086
/-- Address of THM_CH_DATA. -/
abbrev THM_CH_DATA : Nat := 0x087
/-- Address of THM_POLICY0. -/
abbrev THM_POLICY0 : Nat := 0x088
/-- Address of THM_SAMPLE. -/
abbrev THM_SAMPLE : Nat := 0x091
/-- Address of THM_ALERT. -/
abbrev THM_ALERT : Nat := 0x092
/-- Address of THM_FAULT. -/
abbrev THM_FAULT : Nat := 0x093
/-- Address of THM_TRIP_CAUSE. -/
abbrev THM_TRIP_CAUSE : Nat := 0x094
/-- Address of THM_REARM. -/
abbrev THM_REARM : Nat := 0x095
/-- Address of PNL_CTRL. -/
abbrev PNL_CTRL : Nat := 0x0C0
/-- Address of PNL_STATUS. -/
abbrev PNL_STATUS : Nat := 0x0C1
/-- Address of PNL_SIZE. -/
abbrev PNL_SIZE : Nat := 0x0C2
/-- Address of PNL_SCAN. -/
abbrev PNL_SCAN : Nat := 0x0C3
/-- Address of PNL_GATE_TIMING. -/
abbrev PNL_GATE_TIMING : Nat := 0x0C4
/-- Address of PNL_SOURCE_TIMING. -/
abbrev PNL_SOURCE_TIMING : Nat := 0x0C5
/-- Address of PNL_TEMP. -/
abbrev PNL_TEMP : Nat := 0x0C6
/-- Address of PNL_TEMP_SRC. -/
abbrev PNL_TEMP_SRC : Nat := 0x0C7
/-- Address of PNL_BAND0. -/
abbrev PNL_BAND0 : Nat := 0x0C8
/-- Address of PNL_WF_STATUS. -/
abbrev PNL_WF_STATUS : Nat := 0x0D8
/-- Address of PNL_SLOTS. -/
abbrev PNL_SLOTS : Nat := 0x0D9
/-- Address of PNL_UNBALANCED. -/
abbrev PNL_UNBALANCED : Nat := 0x0DA
/-- Address of PNL_ALERT. -/
abbrev PNL_ALERT : Nat := 0x0DB
/-- Address of PNL_CMD. -/
abbrev PNL_CMD : Nat := 0x0DC
/-- Address of PNL_QUEUE_STATUS. -/
abbrev PNL_QUEUE_STATUS : Nat := 0x0DD
/-- Address of HV_CTRL. -/
abbrev HV_CTRL : Nat := 0x100
/-- Address of HV_STATUS. -/
abbrev HV_STATUS : Nat := 0x101
/-- Address of HV_VPOS. -/
abbrev HV_VPOS : Nat := 0x102
/-- Address of HV_VGH. -/
abbrev HV_VGH : Nat := 0x103
/-- Address of HV_VGL. -/
abbrev HV_VGL : Nat := 0x104
/-- Address of HV_VCOM. -/
abbrev HV_VCOM : Nat := 0x105
/-- Address of HV_SEQ. -/
abbrev HV_SEQ : Nat := 0x106
/-- Address of HV_VRES. -/
abbrev HV_VRES : Nat := 0x107
/-- Address of HV_RES_CAP. -/
abbrev HV_RES_CAP : Nat := 0x108
/-- Address of HV_ENERGY. -/
abbrev HV_ENERGY : Nat := 0x109
/-- Address of HV_FAULT. -/
abbrev HV_FAULT : Nat := 0x10A
/-- Address of HV_ALERT. -/
abbrev HV_ALERT : Nat := 0x10B
/-- Address of HV_REARM. -/
abbrev HV_REARM : Nat := 0x10C
/-- Address of HV_KICKBACK. -/
abbrev HV_KICKBACK : Nat := 0x10D
/-- Address of HV_EMODEL_SEL. -/
abbrev HV_EMODEL_SEL : Nat := 0x10E
/-- Address of HV_EMODEL_DATA. -/
abbrev HV_EMODEL_DATA : Nat := 0x10F
/-- Address of HV_TRIPCARD. -/
abbrev HV_TRIPCARD : Nat := 0x110
/-- Address of PAIR_CTRL. -/
abbrev PAIR_CTRL : Nat := 0x140
/-- Address of PAIR_STATE. -/
abbrev PAIR_STATE : Nat := 0x141
/-- Address of PAIR_PEER_SERIAL_LO. -/
abbrev PAIR_PEER_SERIAL_LO : Nat := 0x142
/-- Address of PAIR_PEER_SERIAL_HI. -/
abbrev PAIR_PEER_SERIAL_HI : Nat := 0x143
/-- Address of PAIR_PEER_VERSION. -/
abbrev PAIR_PEER_VERSION : Nat := 0x144
/-- Address of PAIR_PEER_DIGEST_LO. -/
abbrev PAIR_PEER_DIGEST_LO : Nat := 0x145
/-- Address of PAIR_PEER_DIGEST_HI. -/
abbrev PAIR_PEER_DIGEST_HI : Nat := 0x146
/-- Address of PAIR_HB. -/
abbrev PAIR_HB : Nat := 0x147
/-- Address of PAIR_FEATURES. -/
abbrev PAIR_FEATURES : Nat := 0x148
/-- Address of PAIR_ALERT. -/
abbrev PAIR_ALERT : Nat := 0x149
/-- Address of PAIR_CMD. -/
abbrev PAIR_CMD : Nat := 0x14A
/-- Address of PAIR_LINKS. -/
abbrev PAIR_LINKS : Nat := 0x14B
/-- Address of PAIR_CHECKPOINT. -/
abbrev PAIR_CHECKPOINT : Nat := 0x14C
/-- Address of SAF_STATE. -/
abbrev SAF_STATE : Nat := 0x180
/-- Address of SAF_CAUSE. -/
abbrev SAF_CAUSE : Nat := 0x181
/-- Address of SAF_DIAG. -/
abbrev SAF_DIAG : Nat := 0x182
/-- Address of SAF_ALERT. -/
abbrev SAF_ALERT : Nat := 0x183
/-- Address of SAF_CMD. -/
abbrev SAF_CMD : Nat := 0x184
/-- Address of SAF_WDT. -/
abbrev SAF_WDT : Nat := 0x185
/-- Address of SAF_ECC. -/
abbrev SAF_ECC : Nat := 0x186
/-- Address of LOG_CTRL. -/
abbrev LOG_CTRL : Nat := 0x190
/-- Address of LOG_HEAD. -/
abbrev LOG_HEAD : Nat := 0x191
/-- Address of LOG_COUNT. -/
abbrev LOG_COUNT : Nat := 0x192
/-- Address of LOG_SEL. -/
abbrev LOG_SEL : Nat := 0x193
/-- Address of LOG_WIN0. -/
abbrev LOG_WIN0 : Nat := 0x194
/-- Address of LOG_STATUS. -/
abbrev LOG_STATUS : Nat := 0x1B4
/-- Address of RAS_CTRL. -/
abbrev RAS_CTRL : Nat := 0x1C0
/-- Address of RAS_STATUS. -/
abbrev RAS_STATUS : Nat := 0x1C1
/-- Address of RAS_LINES. -/
abbrev RAS_LINES : Nat := 0x1C2
/-- Address of RAS_LINE_PERIOD. -/
abbrev RAS_LINE_PERIOD : Nat := 0x1C3
/-- Address of RAS_PACE_PERIOD. -/
abbrev RAS_PACE_PERIOD : Nat := 0x1C4
/-- Address of RAS_PACE_LINES. -/
abbrev RAS_PACE_LINES : Nat := 0x1C5
/-- Address of RAS_NOW_LO. -/
abbrev RAS_NOW_LO : Nat := 0x1C6
/-- Address of RAS_NOW_HI. -/
abbrev RAS_NOW_HI : Nat := 0x1C7
/-- Address of RAS_FRAME_PRESET_LO. -/
abbrev RAS_FRAME_PRESET_LO : Nat := 0x1C8
/-- Address of RAS_FRAME_PRESET_HI. -/
abbrev RAS_FRAME_PRESET_HI : Nat := 0x1C9
/-- Address of RAS_CMD. -/
abbrev RAS_CMD : Nat := 0x1CA
/-- Address of RAS_GEN. -/
abbrev RAS_GEN : Nat := 0x1CB
/-- Address of RAS_HOLD. -/
abbrev RAS_HOLD : Nat := 0x1CC
/-- Address of RAS_GLITCH. -/
abbrev RAS_GLITCH : Nat := 0x1CD
/-- Address of RAS_SKEW. -/
abbrev RAS_SKEW : Nat := 0x1CE

end R

/-- What the register tables say of one register. -/
structure RegSpec where
  addr : Nat
  /-- Bits with access RW or RWL. -/
  rw : Nat
  w1c : Nat
  wo : Nat
  rc : Nat
  reset : Word
  /-- Immediate (R78). -/
  imm : Bool
  /-- Holds RWL fields and enters the digest (flag D, R91). -/
  digest : Bool
  /-- Holds RWL fields outside the digest (flag L). -/
  calib : Bool

/-- A row of the map. -/
def row (addr rw w1c wo rc : Nat) (reset : Word) (imm digest calib : Bool) : RegSpec :=
  { addr, rw, w1c, wo, rc, reset, imm, digest, calib }

/-- Block 0x000 (R93). -/
def mapId : List RegSpec := [
  row (R.ID_DEVICE) 0x0 0x0 0x0 0x0 0xA04F06A#32 false false false,
  row (R.ID_REVISION) 0x0 0x0 0x0 0x0 (BitVec.ofNat 32 (1 + Config.prillinerRev.toNat * 256 + Config.trayRev.toNat * 65536)) false false false,
  row (R.ID_TRAY_SERIAL_LO) 0x0 0x0 0x0 0x0 (Config.traySerial.setWidth 32) false false false,
  row (R.ID_TRAY_SERIAL_HI) 0x0 0x0 0x0 0x0 ((Config.traySerial >>> 32).setWidth 32) false false false,
  row (R.ID_DIE_SERIAL_LO) 0x0 0x0 0x0 0x0 ((Config.dieSerial 0).setWidth 32) false false false,
  row (R.ID_DIE_SERIAL_HI) 0x0 0x0 0x0 0x0 (((Config.dieSerial 0) >>> 32).setWidth 32) false false false,
  row (R.ID_DIE_SERIAL_LO+2) 0x0 0x0 0x0 0x0 ((Config.dieSerial 1).setWidth 32) false false false,
  row (R.ID_DIE_SERIAL_HI+2) 0x0 0x0 0x0 0x0 (((Config.dieSerial 1) >>> 32).setWidth 32) false false false,
  row (R.ID_DIE_SERIAL_LO+4) 0x0 0x0 0x0 0x0 ((Config.dieSerial 2).setWidth 32) false false false,
  row (R.ID_DIE_SERIAL_HI+4) 0x0 0x0 0x0 0x0 (((Config.dieSerial 2) >>> 32).setWidth 32) false false false,
  row (R.ID_DIE_SERIAL_LO+6) 0x0 0x0 0x0 0x0 ((Config.dieSerial 3).setWidth 32) false false false,
  row (R.ID_DIE_SERIAL_HI+6) 0x0 0x0 0x0 0x0 (((Config.dieSerial 3) >>> 32).setWidth 32) false false false,
  row (R.ID_FW_VERSION) 0x0 0x0 0x0 0x0 0x0#32 false false false,
  row (R.ID_UCODE_VERSION) 0x0 0x0 0x0 0x0 0x0#32 false false false,
  row (R.ID_STRAPS) 0x0 0x0 0x0 0x0 0x0#32 false false false,
  row (R.MG_STATE) 0x0 0x0 0x0 0x0 0x0#32 false false false,
  row (R.MG_TICK) 0x0 0x0 0x0 0x0 0x0#32 false false false,
  row (R.MG_PORT_STAT) 0x0 0x0 0x0 0x0 0x0#32 false false false,
  row (R.MG_PORT_ERR) 0x0 0x0 0x0 0xFFFFFFFF 0x0#32 false false false,
  row (R.MG_SCRATCH) 0xFFFFFFFF 0x0 0x0 0x0 0x0#32 true false false,
  row (R.MG_RESET_CAUSE) 0x0 0x0 0x0 0x0 0x1#32 false false false,
  row (R.MG_IMG_CTRL) 0x0 0x0 0x3FFFF 0x0 0x0#32 true false false,
  row (R.MG_IMG_ADDR) 0xFFFFFF 0x0 0x0 0x0 0x0#32 true false false,
  row (R.MG_IMG_DATA) 0x0 0x0 0xFFFFFFFF 0x0 0x0#32 true false false,
  row (R.MG_IMG_STATUS) 0x0 0x0 0x0 0x0 0x0#32 false false false,
  row (R.ALERT_SRC) 0x0 0x0 0x0 0x0 0x0#32 false false false,
  row (R.ALERT_MASK) 0xFF 0x0 0x0 0x0 0x0#32 false false false,
  row (R.ALERT_PORT) 0x0 0x1F 0x0 0x0 0x10#32 false false false,
  row (R.ALERT_RAS) 0x0 0x7F 0x0 0x0 0x0#32 false false false,
  row (R.CFG_CMD) 0x0 0x0 0xFFFF 0x0 0x0#32 false false false,
  row (R.CFG_EPOCH) 0x0 0x0 0x0 0x0 0x0#32 false false false,
  row (R.CFG_DIGEST_LO) 0x0 0x0 0x0 0x0 0x0#32 false false false,
  row (R.CFG_DIGEST_HI) 0x0 0x0 0x0 0x0 0x0#32 false false false,
  row (R.CFG_STATUS) 0x0 0x0 0x0 0x0 0x0#32 false false false]

/-- Block 0x040 (R93). -/
def mapSupply : List RegSpec := [
  row (R.SUP_STATUS) 0x0 0x0 0x0 0x0 0x0#32 false false false,
  row (R.SUP_VBUS) 0x0 0x0 0x0 0x0 0x0#32 false false false,
  row (R.SUP_IBUS) 0x0 0x0 0x0 0x0 0x0#32 false false false,
  row (R.SUP_PBUS) 0x0 0x0 0x0 0x0 0x0#32 false false false,
  row (R.SUP_SAG_WARN) 0x3FF 0x0 0x0 0x0 0x19A#32 false true false,
  row (R.SUP_SAG_RESET) 0x3FF 0x0 0x0 0x0 0x168#32 false true false,
  row (R.SUP_ALERT) 0x0 0x3F 0x0 0x0 0x0#32 false false false,
  row (R.SUP_MIN_VBUS) 0x0 0x0 0x0 0xFFFF 0xFFFF#32 false false false,
  row (R.SUP_EVENTS) 0x0 0x0 0x0 0xFFFFFFFF 0x0#32 false false false,
  row (R.PWR_CTRL) 0xF17777 0x0 0x0 0x0 0x5555#32 false false false,
  row (R.PWR_STATE) 0x0 0x0 0x0 0x0 0x55555#32 false false false,
  row (R.PWR_WAKE_EN) 0xFFFF0007 0x0 0x0 0x0 0x3#32 false false false,
  row (R.PWR_WAKE_SRC) 0x0 0x0 0x0 0x0 0x0#32 false false false,
  row (R.PWR_LIMIT) 0xFFF 0x0 0x0 0x0 0x7A8#32 false true false,
  row (R.PWR_DIE_LIMIT) 0x1FF 0x0 0x0 0x0 0x1CC#32 false true false,
  row (R.PWR_ALERT) 0x0 0x1F 0x0 0x0 0x0#32 false false false,
  row (R.PWR_DIE0) 0x0 0x0 0x0 0x0 0x0#32 false false false,
  row (R.PWR_DIE0+1) 0x0 0x0 0x0 0x0 0x0#32 false false false,
  row (R.PWR_DIE0+2) 0x0 0x0 0x0 0x0 0x0#32 false false false,
  row (R.PWR_DIE0+3) 0x0 0x0 0x0 0x0 0x0#32 false false false]

/-- Block 0x080 (R93). -/
def mapThermal : List RegSpec := [
  row (R.THM_CTRL) 0x3 0x0 0x0 0x0 0x0#32 false false false,
  row (R.THM_STATUS) 0x0 0x0 0x0 0x0 0x0#32 false false false,
  row (R.THM_THROTTLE) 0x3FF03FF 0x0 0x0 0x0 0x1B8021C#32 false true false,
  row (R.THM_TRIP) 0x3FF03FF 0x0 0x0 0x0 0x1F40250#32 false true false,
  row (R.THM_ROR) 0xFFFF 0x0 0x0 0x0 0x280A#32 false true false,
  row (R.THM_HOTTEST) 0x0 0x0 0x0 0x0 0x0#32 false false false,
  row (R.THM_CH_SEL) 0x1FF 0x0 0x0 0x0 0x0#32 true false false,
  row (R.THM_CH_DATA) 0x0 0x0 0x0 0x0 0x0#32 false false false,
  row (R.THM_POLICY0) 0xFFFFFFFF 0x0 0x0 0x0 0xFFFFFFFF#32 false true false,
  row (R.THM_POLICY0+1) 0xFFFFFFFF 0x0 0x0 0x0 0xFFFFFFFF#32 false true false,
  row (R.THM_POLICY0+2) 0xFFFFFFFF 0x0 0x0 0x0 0xFFFFFFFF#32 false true false,
  row (R.THM_POLICY0+3) 0xFFFFFFFF 0x0 0x0 0x0 0xFFFFFFFF#32 false true false,
  row (R.THM_POLICY0+4) 0xFFFFFFFF 0x0 0x0 0x0 0xFFFFFFFF#32 false true false,
  row (R.THM_POLICY0+5) 0xFFFFFFFF 0x0 0x0 0x0 0xFFFFFFFF#32 false true false,
  row (R.THM_POLICY0+6) 0xFFFFFFFF 0x0 0x0 0x0 0xFFFFFFFF#32 false true false,
  row (R.THM_POLICY0+7) 0xFFFFFFFF 0x0 0x0 0x0 0xFFFFFFFF#32 false true false,
  row (R.THM_POLICY0+8) 0x0 0x0 0x0 0x0 0x0#32 false true false,
  row (R.THM_SAMPLE) 0x0 0x0 0x1 0x0 0x0#32 false false false,
  row (R.THM_ALERT) 0x0 0x7FF 0x0 0x0 0x0#32 false false false,
  row (R.THM_FAULT) 0x0 0x0 0x0 0x0 0x0#32 false false false,
  row (R.THM_TRIP_CAUSE) 0x0 0x0 0x0 0x0 0x0#32 false false false,
  row (R.THM_REARM) 0x0 0x0 0xFFFF 0x0 0x0#32 false false false]

/-- Block 0x0C0 (R93). -/
def mapPanel : List RegSpec := [
  row (R.PNL_CTRL) 0x3 0x0 0x0 0x0 0x0#32 false false false,
  row (R.PNL_STATUS) 0x0 0x0 0x0 0x0 0x0#32 false false false,
  row (R.PNL_SIZE) 0x7FF1FFF 0x0 0x0 0x0 0x0#32 false true false,
  row (R.PNL_SCAN) 0x3F7F 0x0 0x0 0x0 0xA55#32 false true false,
  row (R.PNL_GATE_TIMING) 0xFF1FF3 0x0 0x0 0x0 0x80081#32 false true false,
  row (R.PNL_SOURCE_TIMING) 0xFFFF0F 0x0 0x0 0x0 0x41002#32 false true false,
  row (R.PNL_TEMP) 0x0 0x0 0x0 0x0 0x0#32 false false false,
  row (R.PNL_TEMP_SRC) 0x1 0x0 0x0 0x0 0x0#32 false false false,
  row (R.PNL_BAND0) 0x83FF03FF 0x0 0x0 0x0 0x0#32 false true false,
  row (R.PNL_BAND0+1) 0x83FF03FF 0x0 0x0 0x0 0x0#32 false true false,
  row (R.PNL_BAND0+2) 0x83FF03FF 0x0 0x0 0x0 0x0#32 false true false,
  row (R.PNL_BAND0+3) 0x83FF03FF 0x0 0x0 0x0 0x0#32 false true false,
  row (R.PNL_BAND0+4) 0x83FF03FF 0x0 0x0 0x0 0x0#32 false true false,
  row (R.PNL_BAND0+5) 0x83FF03FF 0x0 0x0 0x0 0x0#32 false true false,
  row (R.PNL_BAND0+6) 0x83FF03FF 0x0 0x0 0x0 0x0#32 false true false,
  row (R.PNL_BAND0+7) 0x83FF03FF 0x0 0x0 0x0 0x0#32 false true false,
  row (R.PNL_BAND0+8) 0x83FF03FF 0x0 0x0 0x0 0x0#32 false true false,
  row (R.PNL_BAND0+9) 0x83FF03FF 0x0 0x0 0x0 0x0#32 false true false,
  row (R.PNL_BAND0+10) 0x83FF03FF 0x0 0x0 0x0 0x0#32 false true false,
  row (R.PNL_BAND0+11) 0x83FF03FF 0x0 0x0 0x0 0x0#32 false true false,
  row (R.PNL_BAND0+12) 0x83FF03FF 0x0 0x0 0x0 0x0#32 false true false,
  row (R.PNL_BAND0+13) 0x83FF03FF 0x0 0x0 0x0 0x0#32 false true false,
  row (R.PNL_BAND0+14) 0x83FF03FF 0x0 0x0 0x0 0x0#32 false true false,
  row (R.PNL_BAND0+15) 0x83FF03FF 0x0 0x0 0x0 0x0#32 false true false,
  row (R.PNL_WF_STATUS) 0x0 0x0 0x0 0x0 0x0#32 false false false,
  row (R.PNL_SLOTS) 0x0 0x0 0x0 0x0 0x0#32 false false false,
  row (R.PNL_UNBALANCED) 0x0 0x0 0x0 0x0 0x0#32 false false false,
  row (R.PNL_ALERT) 0x0 0x3FF 0x0 0x0 0x0#32 false false false,
  row (R.PNL_CMD) 0x0 0x0 0xFFFF 0x0 0x0#32 false false false,
  row (R.PNL_QUEUE_STATUS) 0x0 0x0 0x0 0x0 0x0#32 false false false]

/-- Block 0x100 (R93). -/
def mapHv : List RegSpec := [
  row (R.HV_CTRL) 0xFF01 0x0 0x0 0x0 0xA00#32 false false false,
  row (R.HV_STATUS) 0x0 0x0 0x0 0x0 0x0#32 false false false,
  row (R.HV_VPOS) 0x3F 0x0 0x0 0x0 0x28#32 false false true,
  row (R.HV_VGH) 0x1F 0x0 0x0 0x0 0x10#32 false false true,
  row (R.HV_VGL) 0x3F 0x0 0x0 0x0 0x10#32 false false true,
  row (R.HV_VCOM) 0xFF 0x0 0x0 0x0 0x78#32 false false true,
  row (R.HV_SEQ) 0x3FFFFFF 0x0 0x0 0x0 0x1551111#32 false true false,
  row (R.HV_VRES) 0x0 0x0 0x0 0x0 0x0#32 false false false,
  row (R.HV_RES_CAP) 0x3FF 0x0 0x0 0x0 0x64#32 false false true,
  row (R.HV_ENERGY) 0x0 0x0 0x0 0x0 0x0#32 false false false,
  row (R.HV_FAULT) 0x0 0x0 0x0 0x0 0x0#32 false false false,
  row (R.HV_ALERT) 0x0 0x3FF 0x0 0x0 0x0#32 false false false,
  row (R.HV_REARM) 0x0 0x0 0xFFFF 0x0 0x0#32 false false false,
  row (R.HV_KICKBACK) 0xF 0x0 0x80 0x0 0x4#32 false false false,
  row (R.HV_EMODEL_SEL) 0x7F 0x0 0x0 0x0 0x0#32 true false false,
  row (R.HV_EMODEL_DATA) 0xFFFFFFFF 0x0 0x0 0x0 0xFFFFFFFF#32 false false true,
  row (R.HV_TRIPCARD) 0x13FF1FFF 0x0 0x0 0x0 0x10000000#32 false false false]

/-- Block 0x140 (R93). -/
def mapPair : List RegSpec := [
  row (R.PAIR_CTRL) 0xFFF3 0x0 0x0 0x0 0x40F0#32 false true false,
  row (R.PAIR_STATE) 0x0 0x0 0x0 0x0 0x0#32 false false false,
  row (R.PAIR_PEER_SERIAL_LO) 0x0 0x0 0x0 0x0 0x0#32 false false false,
  row (R.PAIR_PEER_SERIAL_HI) 0x0 0x0 0x0 0x0 0x0#32 false false false,
  row (R.PAIR_PEER_VERSION) 0x0 0x0 0x0 0x0 0x0#32 false false false,
  row (R.PAIR_PEER_DIGEST_LO) 0x0 0x0 0x0 0x0 0x0#32 false false false,
  row (R.PAIR_PEER_DIGEST_HI) 0x0 0x0 0x0 0x0 0x0#32 false false false,
  row (R.PAIR_HB) 0x0 0x0 0x0 0xFFFF0000 0x0#32 false false false,
  row (R.PAIR_FEATURES) 0x0 0x0 0x0 0x0 0xF#32 false false false,
  row (R.PAIR_ALERT) 0x0 0x1FFF 0x0 0x0 0x0#32 false false false,
  row (R.PAIR_CMD) 0x0 0x0 0xFFFFFFFF 0x0 0x0#32 false false false,
  row (R.PAIR_LINKS) 0x0 0x0 0x0 0xFF0000 0x0#32 false false false,
  row (R.PAIR_CHECKPOINT) 0x0 0x0 0x0 0x0 0x0#32 false false false]

/-- Block 0x180 (R93). -/
def mapSafety : List RegSpec := [
  row (R.SAF_STATE) 0x0 0x0 0x0 0x0 0x0#32 false false false,
  row (R.SAF_CAUSE) 0x0 0x0 0x0 0x0 0x0#32 false false false,
  row (R.SAF_DIAG) 0x0 0x0 0x0 0x0 0x0#32 false false false,
  row (R.SAF_ALERT) 0x0 0x3F 0x0 0x0 0x0#32 false false false,
  row (R.SAF_CMD) 0x0 0x0 0xFFFF 0x0 0x0#32 false false false,
  row (R.SAF_WDT) 0xFFFF 0x0 0x0 0x0 0x8#32 false true false,
  row (R.SAF_ECC) 0x0 0x0 0x0 0xFFFFFFFF 0x0#32 false false false,
  row (R.LOG_CTRL) 0x0 0x0 0x0 0x0 0x0#32 false false false,
  row (R.LOG_HEAD) 0x0 0x0 0x0 0x0 0x0#32 false false false,
  row (R.LOG_COUNT) 0x0 0x0 0x0 0x0 0x0#32 false false false,
  row (R.LOG_SEL) 0x7FF 0x0 0x0 0x0 0x0#32 true false false,
  row (R.LOG_WIN0) 0x0 0x0 0x0 0x0 0x0#32 false false false,
  row (R.LOG_WIN0+1) 0x0 0x0 0x0 0x0 0x0#32 false false false,
  row (R.LOG_WIN0+2) 0x0 0x0 0x0 0x0 0x0#32 false false false,
  row (R.LOG_WIN0+3) 0x0 0x0 0x0 0x0 0x0#32 false false false,
  row (R.LOG_WIN0+4) 0x0 0x0 0x0 0x0 0x0#32 false false false,
  row (R.LOG_WIN0+5) 0x0 0x0 0x0 0x0 0x0#32 false false false,
  row (R.LOG_WIN0+6) 0x0 0x0 0x0 0x0 0x0#32 false false false,
  row (R.LOG_WIN0+7) 0x0 0x0 0x0 0x0 0x0#32 false false false,
  row (R.LOG_WIN0+8) 0x0 0x0 0x0 0x0 0x0#32 false false false,
  row (R.LOG_WIN0+9) 0x0 0x0 0x0 0x0 0x0#32 false false false,
  row (R.LOG_WIN0+10) 0x0 0x0 0x0 0x0 0x0#32 false false false,
  row (R.LOG_WIN0+11) 0x0 0x0 0x0 0x0 0x0#32 false false false,
  row (R.LOG_WIN0+12) 0x0 0x0 0x0 0x0 0x0#32 false false false,
  row (R.LOG_WIN0+13) 0x0 0x0 0x0 0x0 0x0#32 false false false,
  row (R.LOG_WIN0+14) 0x0 0x0 0x0 0x0 0x0#32 false false false,
  row (R.LOG_WIN0+15) 0x0 0x0 0x0 0x0 0x0#32 false false false,
  row (R.LOG_WIN0+16) 0x0 0x0 0x0 0x0 0x0#32 false false false,
  row (R.LOG_WIN0+17) 0x0 0x0 0x0 0x0 0x0#32 false false false,
  row (R.LOG_WIN0+18) 0x0 0x0 0x0 0x0 0x0#32 false false false,
  row (R.LOG_WIN0+19) 0x0 0x0 0x0 0x0 0x0#32 false false false,
  row (R.LOG_WIN0+20) 0x0 0x0 0x0 0x0 0x0#32 false false false,
  row (R.LOG_WIN0+21) 0x0 0x0 0x0 0x0 0x0#32 false false false,
  row (R.LOG_WIN0+22) 0x0 0x0 0x0 0x0 0x0#32 false false false,
  row (R.LOG_WIN0+23) 0x0 0x0 0x0 0x0 0x0#32 false false false,
  row (R.LOG_WIN0+24) 0x0 0x0 0x0 0x0 0x0#32 false false false,
  row (R.LOG_WIN0+25) 0x0 0x0 0x0 0x0 0x0#32 false false false,
  row (R.LOG_WIN0+26) 0x0 0x0 0x0 0x0 0x0#32 false false false,
  row (R.LOG_WIN0+27) 0x0 0x0 0x0 0x0 0x0#32 false false false,
  row (R.LOG_WIN0+28) 0x0 0x0 0x0 0x0 0x0#32 false false false,
  row (R.LOG_WIN0+29) 0x0 0x0 0x0 0x0 0x0#32 false false false,
  row (R.LOG_WIN0+30) 0x0 0x0 0x0 0x0 0x0#32 false false false,
  row (R.LOG_WIN0+31) 0x0 0x0 0x0 0x0 0x0#32 false false false,
  row (R.LOG_STATUS) 0x0 0x20 0x0 0x0 0x8#32 false false false]

/-- Block 0x1C0 (R93). -/
def mapRaster : List RegSpec := [
  row (R.RAS_CTRL) 0x1F 0x0 0x0 0x0 0x4#32 false false false,
  row (R.RAS_STATUS) 0x0 0x1C0 0x0 0x0 0x0#32 false false false,
  row (R.RAS_LINES) 0x0 0x0 0x0 0x0 0x3E8#32 false false false,
  row (R.RAS_LINE_PERIOD) 0x0 0x0 0x0 0x0 0x3200#32 false false false,
  row (R.RAS_PACE_PERIOD) 0xFFFFFFFF 0x0 0x0 0x0 0x39DED#32 false false false,
  row (R.RAS_PACE_LINES) 0xFFF 0x0 0x0 0x0 0x465#32 false false false,
  row (R.RAS_NOW_LO) 0x0 0x0 0x0 0x0 0x0#32 false false false,
  row (R.RAS_NOW_HI) 0x0 0x0 0x0 0x0 0x0#32 false false false,
  row (R.RAS_FRAME_PRESET_LO) 0xFFFFFFFF 0x0 0x0 0x0 0x0#32 false false false,
  row (R.RAS_FRAME_PRESET_HI) 0xFF 0x0 0x0 0x0 0x0#32 false false false,
  row (R.RAS_CMD) 0x0 0x0 0xFFFF 0x0 0x0#32 false false false,
  row (R.RAS_GEN) 0x0 0x0 0x0 0x0 0x0#32 false false false,
  row (R.RAS_HOLD) 0x0 0x0 0x0 0x0 0x0#32 false false false,
  row (R.RAS_GLITCH) 0x0 0x0 0x0 0xFFFFFFFF 0x0#32 false false false,
  row (R.RAS_SKEW) 0x0 0x0 0x0 0xFF 0x0#32 false false false]

/-- The whole map in ascending address order; every other address is reserved (R93). -/
def regMap : List RegSpec :=
  mapId ++ mapSupply ++ mapThermal ++ mapPanel ++ mapHv ++ mapPair ++ mapSafety ++ mapRaster

/-- The row of an address, none where it is reserved. -/
def regSpec (a : Nat) : Option RegSpec := regMap.find? (fun r => r.addr == a)

/-- A register holds an RWL field (R89). -/
def isLockable (a : Nat) : Bool := match regSpec a with | some r => r.digest || r.calib | none => false

/-- A register is immediate (R78). -/
def isImmediate (a : Nat) : Bool := match regSpec a with | some r => r.imm | none => false

/-- An address of the map is reserved (R93). -/
def isReserved (a : Nat) : Bool := (regSpec a).isNone

/-- The reset word of address a (R10), zero where it is reserved (R9). -/
def resetWord (a : Nat) : Word := match regSpec a with | some r => r.reset | none => 0

/-- The register file with every register at its reset value (R10). -/
def resetRegs : Vector Word 512 := ⟨⟨(List.range 512).map resetWord⟩, by simp⟩

end Sys2Proof.Machine
end

