-- ==== Sys2Proof/Machine/State.lean ====
section
/-!
DEFINITION. The state of the tray, whole and as plain data (INVENTORY.md, '## State', lists it with the rules), and the
state right after power-on reset. No field has a function type; sparse stores are sorted lists in one canonical form.
-/
namespace Sys2Proof.Machine

open Sys2Proof

/-- Nothing the tray does faults the model: every error the spec describes is state (a status code, an alert, a halt).
The type is empty, so no command raises a fault; that is safe, and it is a fact about the type. -/
inductive Fault
  deriving DecidableEq, Repr

/-- Why a command has no meaning in the model. -/
inductive Refusal where
  /-- Raised by the dispatch alone, for a command whose meaning is not written; safe: the model stops. -/
  | notModelled (mnemonic : String)
  deriving DecidableEq, Repr

/-- A sparse store: (key, value) pairs with rising keys, and no pair whose value is what an unlisted key reads as. -/
abbrev SMap (α : Type) := List (Nat × α)

/-- Bytes by address; an unlisted byte reads 0 (R105, R152; assumption log 4). -/
abbrev Memory := List Host.Cell

/-- A completion the tray returns to a host request: data, UR (R421, R426), or data with the EP bit set (R151); on a pair data
port also what the twin's requester sees of a refused access (R383) or of a bad offset (R141). -/
inductive HostResp where
  | none
  | ok (data : List Byte)
  | ur
  | poisoned (data : List Byte)
  | peerUnavail
  | memRange
  deriving DecidableEq, Repr

/-! ### The management port (R67-R85) -/

/-- Frame engine: the held read response (R81), the pending-write queue (R77), the last response driven on MISO. -/
structure Port where
  held : Option (List Word)
  queue : List (Nat × Word)
  miso : List Byte
  deriving DecidableEq, Repr

/-- Levels of the pins that are state: ALERT_N (R86), WAKE_N (R429), PERST_N (R428); true is high. `forcedLow` is the
hold of ALERT_N by the safety logic until the restart (R395). -/
structure Pins where
  alertN : Bool
  forcedLow : Bool
  wakeN : Bool
  perstN : Bool
  deriving DecidableEq, Repr

/-! ### Raster time (R43-R66). Fine times are in 1/1024 ns; a tracker tick is 2,560 of them. -/

/-- Progress of a lock acquisition (R55). -/
structure Acq where
  /-- 0 no valid edge yet, 1 measuring 64 lines, 2 waiting for the first FRAME_REF edge, 3 counting two frames. -/
  step : Nat
  lastEdge : Option Nat
  intervals : Nat
  sum : Nat
  /-- Line period found by step 1, fine units; 0 while there is none. -/
  per : Nat
  linesInFrame : Nat
  frameStart : Nat
  counts : List Nat
  inTolerance : Bool
  deriving DecidableEq, Repr

/-- The raster tracker and the tray raster. -/
structure Raster where
  frame : Nat
  line : Nat
  /-- Fine time at which the current tray line is taken to have started. -/
  lineAt : Nat
  /-- Current line period at full resolution, fine units (R48). -/
  per : Nat
  /-- Line period measured at lock (R48). -/
  lockPer : Nat
  /-- The last 64 accepted line periods in ticks, newest first (R48). -/
  hist : List Nat
  /-- Start of the current reference line, fine: the previous accepted edge or the expected time of a missing one (R47). -/
  refAt : Nat
  /-- Tick of the last accepted edge. -/
  lastAccepted : Nat
  missRun : Nat
  /-- A line start is due: (fine start time, pulse fraction) (R57). -/
  due : Option (Nat × Nat)
  /-- A FRAME_REF edge not yet matched to a line: its tick, and the line period of its window (R45). -/
  frameRefAt : Option (Nat × Nat)
  frameRefSeen : Bool
  noRefFrames : Nat
  errRun : Nat
  errDist : Nat
  linesSinceFrameRef : Nat
  /-- The running raster is a held raster, not the fallback raster (R62). -/
  held : Bool
  /-- Ahead offset still to close in SLEWING, raster units (R62). -/
  slew : Nat
  /-- Forward jump of this many raster units to make at the next reference line edge (R62). -/
  jump : Option Nat
  /-- Returned geometry (N, fine period) while rate_mismatch is set (R62). -/
  returned : Option (Nat × Nat)
  acceptGeom : Bool
  preset : Option Nat
  /-- The last pulse on the bus, how many have left, and the fine time at which its F:L.s is the tray's time (R57). -/
  pulse : DWord
  pulses : Nat
  pulseAt : Nat
  capture : DWord
  /-- Tick at which the tracker stopped on entry to Small hours (R64). -/
  stopAt : Nat
  /-- In LOCKED the tray's lines start this long after the reference's edges, fine units; not 0 only after a jump or a slew
  towards the peer (R378; assumption log 70). -/
  phase : Nat
  /-- How far slewing and jumps towards the peer have moved the tray's raster forward, in N-ths of a raster unit (R378). -/
  pairMoved : Int
  /-- Pair slewing of tray B (R378): 0 none, 1 lengthened lines, 2 shortened lines; and N-ths of a raster unit
  still to close. -/
  pairSlew : Nat
  pairLeft : Nat
  /-- Forward jump of this many raster units, to the peer's estimated time, at the next line pulse (R378). -/
  pairJump : Option Nat
  acq : Acq
  deriving DecidableEq, Repr

/-! ### Supply, power (R95-R114, R446) -/

/-- Supply monitor: consecutive-sample counters (R96, R97), the last 16 samples of the bus and of VRES. -/
structure Supply where
  belowWarn : Nat
  aboveWarn : Nat
  belowReset : Nat
  aboveReset : Nat
  atOv : Nat
  belowOv : Nat
  vbus : List Nat
  ibus : List Nat
  vres : List Nat
  warnAt : Nat
  /-- Sag reset and overvoltage reset asserted, each on its own (SUP_STATUS.reset is their or). -/
  sagOn : Bool
  ovOn : Bool
  deriving DecidableEq, Repr

/-- Power ladder as the Prilliner holds it. -/
structure Power where
  /-- Power-cap clock steps per die (R112). -/
  capSteps : Vector Nat 4
  /-- A request not yet carried out: held (R98, R106, R435) or waiting for a new write (R443). -/
  request : Vector (Option Nat) 4
  /-- A raise that failed under R443 and waits for a PWR_CTRL write applied after CLEAR. -/
  raiseFailed : Vector Bool 4
  stopLines : Vector Bool 4
  /-- States reported to the Prilliner since the last boundary: (state, Prilliner-driven) (R107, R109). -/
  report : Vector (List (Nat × Bool)) 4
  /-- Dies to wake at the next boundary for a doorbell (R108). -/
  wakeDie : Vector Bool 4
  /-- Wake source to record at the next boundary (R111), and whether it arrived during entry to Small hours (R446). -/
  wakeSrc : Option Nat
  entering : Bool
  /-- The Prilliner has stopped: Small hours (R446) or VRES collapse (R100). -/
  stopped : Bool
  /-- The stop is Small hours, so a wake source restarts the Prilliner. -/
  smallHours : Bool
  ucodeOk : Bool
  /-- Dies above Midnight, state by state, before the last protective reset (R101 bytes 14-15). -/
  before : Nat
  /-- Die hold by an adopted level of 3 (R398). -/
  adoptHold : Bool
  deriving DecidableEq, Repr

/-! ### Thermal (R115-R136) -/

/-- One sensor channel. A rate is rateNum codes over rateDen ticks (R121). -/
structure Chan where
  raw : Nat
  eff : Nat
  subst : Bool
  crossed : Bool
  rateNum : Int
  rateDen : Nat
  /-- Stored valid readings (time, code), newest first, down to one that is at least 400 us old (R121). -/
  hist : List (Nat × Nat)
  absRun : Nat
  rateRun : Nat
  validRun : Nat
  fault : Bool
  /-- A scan has read the channel; until then THM_CH_DATA.invalid reads its reset value (R10, R136). -/
  read : Bool
  deriving DecidableEq, Repr

/-- A sampling group: four die grids and the tray group (R119). -/
structure Group where
  mode : Nat
  /-- Scans of the fast hold that remain (R120). -/
  fastLeft : Nat
  /-- End of the near hold, ticks (R120); 0 when not in force. -/
  nearUntil : Nat
  scans : Nat
  /-- Faulty lines or leads: rows 0-7, columns 8-15, or tray offsets 0-8; with passes since (R131). -/
  failed : List (Nat × Nat)
  deriving DecidableEq, Repr

/-- Thermal front end. -/
structure Thermal where
  chans : Vector Chan 265
  groups : Vector Group 5
  steps : Vector Nat 4
  lastStepAt : Vector (Option Nat) 4
  /-- Since when every junction channel of the die and every tray channel has read 2 C below its throttle (R125). -/
  coolSince : Vector (Option Nat) 4
  /-- The host's acknowledgement waits for the boundary (R431). -/
  ackPending : Bool
  /-- THM_SAMPLE.request was applied and the extra scans have not been made (R122). -/
  sampleReq : Bool
  deriving DecidableEq, Repr

/-! ### Tidemark (R134, R135, R407, R408, R440) -/

/-- An event waiting to be written as a record. -/
structure TmEvent where
  kind : Nat
  rasterValid : Bool
  raster : DWord
  tick : Word
  location : Word
  payload : List Byte
  epoch : Word
  deriving DecidableEq, Repr

structure Tidemark where
  cells : Memory
  pend : List TmEvent
  nextSeq : Nat
  /-- Index of the newest record of each latch still set: thermal trip, HV latch, level-3 cause (R408). -/
  keepTrip : Option Nat
  keepHv : Option Nat
  keepSaf : Option Nat
  /-- Bit 1 of the flags of the next record (R369). -/
  cardFlag : Bool
  /-- Next index after a failed verify (R408). -/
  skipTo : Option Nat
  captureWait : Option Nat
  deriving DecidableEq, Repr

/-! ### Safety (R391-R409) -/

structure Safety where
  /-- Boundaries since the later of a KICK and a change of ctl_timeout (R400). -/
  heartbeat : Nat
  ctlInForce : Nat
  kicked : Bool
  /-- Level-3 causes detected and not yet restarted from (R395), as SAF_CAUSE bits. -/
  restart : Nat
  missed : Nat
  failedMonitors : List MonitorId
  /-- Location codes reported with a cause since the last boundary: (cause bit, location). -/
  locs : List (Nat × Word)
  /-- Failed raises to record at the next boundary (R443). -/
  raiseFails : List Word
  /-- SAF_CAUSE as it stood after the last judgement (R394). -/
  lastCauses : Nat
  deriving DecidableEq, Repr

/-! ### Pairing (R371-R390) -/

/-- The fields of a pair frame that the supervisor keeps. -/
structure PeerFrame where
  seq : Nat
  role : Nat
  state : Nat
  enable : Bool
  claimed : Bool
  sleepReq : Bool
  safety : Nat
  power : Nat
  serial : DWord
  echo : DWord
  versions : Nat
  features : Nat
  digest : DWord
  dies : Nat
  ckpt : Nat
  ckptValid : Bool
  raster : DWord
  lines : Nat
  deriving DecidableEq, Repr

/-- A valid frame that arrived since the last boundary and whose register effects wait for it (R31, R372): its kind, the
tray's PAIR_STATE.state when it arrived, the tray's own raster time minus the peer's estimated one, in raster units, and what slewing
and jumps had moved the tray by at that time (R378). -/
structure Arrival where
  frame : PeerFrame
  kind : Nat
  state : Nat
  ahead : Int
  moved : Int
  deriving DecidableEq, Repr

structure Pair where
  /-- The last valid frame, and its arrival in ticks. -/
  last : Option PeerFrame
  lastAt : Nat
  /-- Tick of the last signalling seen from the peer on the channel or a data port (R384). -/
  signalAt : Option Nat
  /-- Longest allowance end of the loss timer after a wake (R381), ticks. -/
  graceUntil : Nat
  inbox : List Arrival
  badFrames : Nat
  /-- Longest completed gap since the last boundary, 100 us units. -/
  gap : Nat
  newLoss : Bool
  fence : Bool
  /-- Consecutive boundaries with a differing digest (R377); an equal one arrived since the last boundary. -/
  digestDiff : Nat
  digestEqual : Bool
  claimSerial : DWord
  /-- A refusal or an UNPAIR has put the tray in SOLO, and no RETRY and no reset has followed (R374, R390). -/
  barred : Bool
  txSeq : Nat
  tx : List (List Byte)
  sendWake : Bool
  sleepSent : Bool
  /-- The peer's SLEEP frame has arrived (R381). -/
  peerSleep : Bool
  /-- Latest checkpoint report of each die: (ID, good) (R388). -/
  reports : Vector (Option (Nat × Bool)) 4
  deriving DecidableEq, Repr

/-! ### Panel and HV (R325-R370) -/

/-- Who an update slot belongs to: a PANEL queue's command, PARK_ALL, or the trip card (R347). -/
inductive SlotOwner where
  | none
  | queue (q : Fin 4)
  | parkAll
  | tripCard
  deriving DecidableEq, Repr

/-- An update slot (R338). -/
structure Slot where
  granted : Bool
  active : Bool
  owner : SlotOwner
  mode : Nat
  band : Nat
  x : Nat
  y : Nat
  w : Nat
  h : Nat
  addr : Nat
  stride : Nat
  order : Nat
  frames : Nat
  done : Nat
  driven : Nat
  /-- Most frames that its drive, or its Park, can still need (R365). -/
  left : Nat
  /-- Why it was stopped: 0 not, 7 energy or SAG_RESET, 8 STOP_ALL (R343, R348). -/
  stop : Nat
  /-- Rows of the trip card that it draws (R368). -/
  text : List (List Byte)
  deriving DecidableEq, Repr

structure Panel where
  pixels : SMap Word
  wave : Memory
  work : Memory
  /-- 8-byte units of work SRAM that hold an uncorrectable error (R405). -/
  workBad : List Nat
  slots : Vector Slot 16
  nextOrder : Nat
  /-- Drive codes of the pixels in transition in the frame that is scanned, plus 1, by pixel (R339). -/
  drive : SMap Nat
  /-- Drive code of every other pixel of that frame; none while no frame is scanned (R328, R353). -/
  idle : Option Nat
  frameNo : Nat
  bandSelected : Option Nat
  parkAllWaits : Bool
  /-- Place of the waiting whole-panel Park among the commands that wait (R341, R350). -/
  parkAllAt : Nat
  stopAllReq : Bool
  sagStop : Bool
  /-- The panel outputs are driven low by the safety logic (R395). -/
  low : Bool
  deriving DecidableEq, Repr

/-- HV supplies and the trip card. -/
structure Hv where
  emodel : Vector Word 128
  /-- Rails at or above 1 V. -/
  charged : Bool
  /-- Codes in force: VPOS, VGH, VGL, VCOM (R352). -/
  inForce : Vector Nat 4
  disabled : Bool
  cardCause : Nat
  cardRecord : Option Nat
  cardText : List (List Byte)
  cardWaits : Bool
  /-- The energy rule has been evaluated for the waiting card (R369). -/
  cardJudged : Bool
  /-- Ticks at which the present power-up or power-down sequence began, at which the rails last came UP, from which no slot has been active,
  and at which the last fault was detected (R354-R359). -/
  seqAt : Nat
  upAt : Nat
  idleAt : Nat
  faultAt : Nat
  /-- Index of the free times within which the rails discharge in this power-down (R356). -/
  fallNo : Nat
  /-- Frames scanned for the kick-back measurement (R353). -/
  measured : Nat
  deriving DecidableEq, Repr

/-! ### Images (R436-R439) -/

/-- One bank of the image store. -/
structure Bank where
  words : SMap Word
  count : Nat
  deriving DecidableEq, Repr

structure Images where
  fw0 : Bank
  fw1 : Bank
  uc0 : Bank
  uc1 : Bank
  fwActive : Bool
  ucActive : Bool
  target : Nat
  written : Nat
  /-- The firmware has started and MG_STATE leaves BOOT at the next boundary (R434). -/
  booted : Bool
  deriving DecidableEq, Repr

/-! ### Queues and commands (R162-R189) -/

/-- Where a command read from its ring stands in its life (R174). -/
inductive Phase where
  | waiting     -- step 2
  | gate        -- step 3
  | atDesc      -- steps 1 to 3 done, step 4 next
  | eligible    -- step 4 done (R194)
  | held        -- PANEL step 5 not yet granted (R347)
  | running     -- step 5
  | preempted   -- step 5, state saved (R209)
  | ended       -- execution over or failed; steps 6 and 7 next
  deriving DecidableEq, Repr

/-- A tensor descriptor as read (R176). -/
structure Desc where
  base : Nat
  format : Nat
  rank : Nat
  mx : Bool
  scaleDim : Nat
  dims : Vector Nat 5
  strides : Vector Nat 5
  scaleBase : Nat
  deriving DecidableEq, Repr

/-- A byte that a command wrote, with the region its address is in. -/
structure Wrote where
  region : Nat
  addr : Nat
  old : Byte
  new : Byte
  deriving DecidableEq, Repr

/-- A command that has been read from its ring and has not completed. -/
structure Live where
  pos : Word
  bytes : List Byte
  phase : Phase
  status : Nat
  location : Word
  result : Nat
  notBefore : Option DWord
  dueBy : Option DWord
  /-- First command of its list, or of what is left of a list that lost the slot (R169, R200). -/
  first : Bool
  /-- Acceptance number of the doorbell that made the command visible (R200). -/
  bell : Nat
  descs : List Desc
  marks : Nat
  ageMarks : Nat
  aged : Bool
  steps : Nat
  splits : Nat
  preempts : Nat
  restart : Bool
  busy : Nat
  stamp : Nat
  slotUsed : Nat
  bandUsed : Nat
  frames : Nat
  reason : Nat
  /-- Bytes the command wrote: region, address, the value they had before and the one it gave them. What a failure or a cut leaves of
  them is open (R146, R153, R187, assumption log 9). -/
  undo : List Wrote
  /-- An ATTEND's stall on a page miss: 0 none, 1 waiting for the fill path, 2 filled, so that the step repeats (R309). Of a PANEL
  command: 1 once it has had to wait for active slots (R341). -/
  stall : Nat
  /-- What the command read at step 4 beside its tensor descriptors, by place: 0 the parameter block, 1 the length table,
  2 qidx, 0x1000 + n sequence descriptor n, 0x10000 + n tensor descriptor n of an expansion matrix (R179, R288, R296). -/
  notes : List (Nat × List Byte)
  /-- Page table entries that an ATTEND had fetched when it stalled: (address, bytes) (R285). -/
  fetched : List (Nat × List Byte)
  /-- Index of the free values that settle what R233 leaves to the die for the command: tiles, split factor, order of addition. -/
  choice : Nat
  /-- The command is cut with CANCELLED at its next step boundary (R185). -/
  cancel : Bool
  deriving DecidableEq, Repr

/-- A queue: its registers (R164-R188) and the commands read from it. -/
structure Queue where
  ringBase : Nat
  ringLog : Nat
  cplBase : Nat
  cplLog : Nat
  cls : Nat
  vector : Nat
  waitTimeout : Nat
  state : Nat
  stale : Bool
  cplFault : Bool
  badDoorbell : Bool
  ctrlIgnored : Bool
  badRing : Bool
  head : Word
  tail : Word
  cplHead : Word
  cplTail : Word
  epoch : Word
  errPos : Word
  errStatus : Nat
  /-- Position of the next command to read. -/
  next : Word
  /-- A list is open: the next command read is not the first of its list (R169). -/
  listOpen : Bool
  /-- Deadline of the list, none where it has none (R199). -/
  listDue : Option DWord
  /-- The list is a member of the URGENT slot (R200). -/
  inSlot : Bool
  /-- Accepted doorbells, oldest first: (tail, acceptance number) (R200). -/
  bells : List (Word × Nat)
  live : List Live
  deriving DecidableEq, Repr

/-- An engine of a die (R193): the queue it runs, the queue whose state is saved (R210), and the queue served last in each
non-URGENT class (R195). -/
structure EngineSt where
  running : Option QIdx
  saved : Option QIdx
  lastServed : Vector Nat 4
  /-- A step of the running command has ended while an URGENT command was eligible, so that the command yields (R207, R209). -/
  boundary : Bool
  deriving DecidableEq, Repr

/-- A host waiter slot (R216). -/
structure Waiter where
  obj : Nat
  vector : Nat
  fired : Bool
  armed : Bool
  value : DWord
  deriving DecidableEq, Repr

/-- MSI-X of a function (R424): Enable, the vectors whose mask bit is clear, pending bits; with the table's other words. -/
structure Msix where
  enable : Bool
  unmasked : List Nat
  pending : List Nat
  table : SMap Word
  deriving DecidableEq, Repr

/-- Configuration space of a function as far as the spec names it (R412, R415, R423, R426). -/
structure CfgSpace where
  command : Nat
  bar0 : Nat
  bar2 : Nat
  bar2Log : Nat
  relaxed : Bool
  timeout : Nat
  /-- AER and Status error bits (R426): 0 Unsupported Request, 1 Poisoned TLP Received, 2 Completion Timeout, 3 Received
  Master or Target Abort, 8 Unsupported Request at the switch port. -/
  aer : Nat
  deriving DecidableEq, Repr

/-- A plane-bridge message to a die (R33, R34). -/
inductive BridgeMsg where
  | power (target : Nat)
  | throttle (thermal cap : Nat)
  | epoch (e : Word)
  | wakeConfig (doorbell autoIdle : Bool)
  deriving DecidableEq, Repr

/-- A die's event on the plane bridge (R33). -/
inductive DieEvent where
  | stateReached (s : Nat) (driven : Bool)
  | memUe (loc : Word)
  | quiesced (e : Word)
  | doorbellWake
  | checkpoint (id : Nat) (good : Bool)
  | raiseFailed (loc : Word)
  deriving DecidableEq, Repr

/-- Page engine: frames whose release waits for COMPUTE commands (R305). A deferred entry is (first unit, units, the
commands waited for as (queue, position)). -/
structure PageSt where
  deferred : List (Nat × Nat × List (Nat × Word))
  spilling : Bool
  /-- Runs that the PAGE command last begun has moved: (source, destination, bytes) (R151). -/
  moved : List (Nat × Nat × Nat)
  deriving DecidableEq, Repr

/-- A unit that cannot be read (R147, R151): its first address, whether poison came to it by propagation, and which of its bytes have
been rewritten since, bit i for the byte at i. -/
structure BadUnit where
  unit : Nat
  prop : Bool
  done : Nat
  deriving DecidableEq, Repr

/-- One compute die. -/
structure DieSt where
  /-- Power state code (R104). -/
  power : Nat
  /-- Transition in progress: target state and whether the Prilliner drives it (R106, R107). -/
  moving : Option (Nat × Bool)
  /-- Self-woken from this state, so it returns (R109). -/
  selfWoken : Bool
  wakeDoorbell : Bool
  autoIdle : Bool
  /-- A doorbell arrived during a transition and is judged when the state is reached (R106). -/
  doorbellHeld : Bool
  msgs : List BridgeMsg
  events : List DieEvent
  thermSteps : Nat
  capSteps : Nat
  rasValid : Bool
  ras : DWord
  rasAt : Nat
  rasPer : Nat
  rasGen : Nat
  /-- Which pulse the die took last, or which had left when its raster input was powered (R59). -/
  rasSeen : Nat
  rasCap : DWord
  rasCapValid : Bool
  rasCapGen : Nat
  t0 : Memory
  t1 : Memory
  t1Written : List Nat
  /-- Poisoned units (R151). -/
  poison : List BadUnit
  /-- The next unit of tier 0 and of tier 1 that patrol scrub reads (R148). -/
  scrub0 : Nat
  scrub1 : Nat
  linkUp : Vector Bool 4
  /-- Tick at which each link last retrained by itself (R145). -/
  retrainAt : Vector (Option Nat) 4
  queues : Vector Queue 32
  engines : Vector EngineSt 3
  /-- Command, memory, Weir, page and link blocks of BAR0, one word per register offset / 4. -/
  cmdBlk : Vector Word 16
  memBlk : Vector Word 16
  weirBlk : Vector Word 8
  pageBlk : Vector Word 16
  linkBlk : Vector Word 12
  slotCap : DWord
  objs : Vector DWord 256
  homed : Vector DWord 16
  /-- What the last read of SYNC_VAL_LO of each object captured (R215). -/
  objCap : SMap DWord
  /-- Acceptance number of the first doorbell accepted while a power-state message was pending: what it made visible starts only when
  the die has acted on the message (R36). -/
  bellFrom : Option Nat
  sigLo : SMap Word
  waiters : Vector Waiter 32
  /-- Global signals sent and not yet arrived: (object, low 16 bits) (R213). -/
  sigOut : List (Nat × Nat)
  /-- Values of tray-global objects as last notified to this die (R213). -/
  seen : SMap DWord
  page : PageSt
  shadowFailed : Bool
  msix : Msix
  cfg : CfgSpace
  pcieUp : Bool
  deriving DecidableEq, Repr

/-- The Prilliner function: PF registers and PANEL queues (R346, R430). -/
structure PfSt where
  status : Word
  /-- Event bits whose alert set since the last boundary and whose message waits for it (R425). -/
  evPend : Nat
  intStatus : Word
  intMask : Word
  ctrl : Word
  queues : Vector Queue 4
  lastServed : Nat
  sigOut : List (Nat × Nat)
  seen : SMap DWord
  msix : Msix
  cfg : CfgSpace
  deriving DecidableEq, Repr

/-- The tray's one URGENT slot (R200): held or not, and the holder's deadline. Each queue says whether its list is in it. -/
structure UrgentSlot where
  held : Bool
  due : Option DWord
  /-- Number of the next accepted doorbell. -/
  bells : Nat
  deriving DecidableEq, Repr

/-- What left the tray: MSI-X messages (function, vector) in order, the completion of the last host request. -/
structure Outbox where
  msix : List (Fn × Nat)
  resp : HostResp
  deriving DecidableEq, Repr

/-- Memory outside the tray that its engines reach: PCIe memory by bus address with its poisoned bytes, and the twin's
dies' memories by die and device address (R140, R141). -/
structure Outside where
  host : Memory
  twin : Vector Memory 4
  deriving DecidableEq, Repr

/-- A memory write on its way upstream (R157, R417, R423): source function, PCIe address, bytes, Relaxed Ordering and EP. -/
structure Tlp where
  fn : Fn
  addr : Nat
  len : Nat
  ro : Bool
  ep : Bool
  deriving DecidableEq, Repr

/-- The PCIe switch (R412-R417): link speed codes and widths of the upstream port and of ports 0-4 as trained, ACS P2P Request Redirect
of each port, the posted writes that wait at each port, the port whose turn comes next, what has left upstream in order; and the dies'
writes to the Prilliner's BAR0 that wait at port 4: (offset, value, bytes written). -/
structure Switch where
  upSpeed : Nat
  upWidth : Nat
  speed : Vector Nat 5
  width : Vector Nat 5
  redirect : Vector Bool 5
  bufs : Vector (List Tlp) 5
  turn : Fin 5
  sent : List Tlp
  toPf : Vector (List (Nat × Word × Nat)) 4
  pfTurn : Fin 4
  deriving DecidableEq, Repr

/-- The whole state. -/
structure State where
  pending : List Instr
  now : Nat
  freeCtr : Nat
  regs : Vector Word 512
  port : Port
  pins : Pins
  ras : Raster
  sup : Supply
  pwr : Power
  thm : Thermal
  tm : Tidemark
  saf : Safety
  pair : Pair
  pnl : Panel
  hv : Hv
  img : Images
  dies : Vector DieSt 4
  pf : PfSt
  slot : UrgentSlot
  out : Outbox
  ext : Outside
  sw : Switch
  deriving DecidableEq, Repr

/-! ### The state right after power-on reset (R54, R330, R432, R434)

Values the spec states stand as stated. Values it does not state are named in the assumption log: 1 (time 0), 2 (fuses and
straps), 3 (pins), 4 (unlisted bytes), 5 (image store), 6 (MSI-X and configuration space), 7 (free counter). -/

/-- Line period of the fallback raster and of FREE mode, 800 ns, in fine units (R52, R54). -/
def freePeriod : Nat := 800 * 1024

def Acq.idle : Acq :=
  { step := 0, lastEdge := none, intervals := 0, sum := 0, per := 0, linesInFrame := 0, frameStart := 0,
    counts := [], inTolerance := true }

/-- The fallback raster at 0:0.0 in UNLOCKED (R54). -/
def Raster.reset : Raster :=
  { frame := 0, line := 0, lineAt := 0, per := freePeriod, lockPer := 0, hist := [], refAt := 0, lastAccepted := 0,
    missRun := 0, due := none, frameRefAt := none, frameRefSeen := false, noRefFrames := 0, errRun := 0, errDist := 0,
    linesSinceFrameRef := 0, held := false, slew := 0, jump := none, returned := none, acceptGeom := false,
    preset := none, pulse := 0, pulses := 0, pulseAt := 0, capture := 0, stopAt := 0, phase := 0, pairMoved := 0, pairSlew := 0, pairLeft := 0, pairJump := none,
    acq := Acq.idle }

def Supply.reset : Supply :=
  { belowWarn := 0, aboveWarn := 0, belowReset := 0, aboveReset := 0, atOv := 0, belowOv := 0, vbus := [], ibus := [],
    vres := [], warnAt := 0, sagOn := false, ovOn := false }

def Power.reset : Power :=
  { capSteps := .replicate 4 0, request := .replicate 4 none,
    raiseFailed := .replicate 4 false, stopLines := .replicate 4 false, report := .replicate 4 [],
    wakeDie := .replicate 4 false, wakeSrc := none, entering := false, stopped := false, smallHours := false,
    ucodeOk := false, before := 0, adoptHold := false }

def Chan.reset : Chan :=
  { raw := 0, eff := 0, subst := false, crossed := false, rateNum := 0, rateDen := 1, hist := [], absRun := 0,
    rateRun := 0, validRun := 0, fault := false, read := false }

def Group.reset : Group := { mode := 0, fastLeft := 0, nearUntil := 0, scans := 0, failed := [] }

def Thermal.reset : Thermal :=
  { chans := .replicate 265 Chan.reset, groups := .replicate 5 Group.reset, steps := .replicate 4 0,
    lastStepAt := .replicate 4 none, coolSince := .replicate 4 none, ackPending := false, sampleReq := false }

def Tidemark.reset : Tidemark :=
  { cells := [], pend := [], nextSeq := 0, keepTrip := none, keepHv := none, keepSaf := none, cardFlag := false,
    skipTo := none, captureWait := none }

def Safety.reset : Safety :=
  { heartbeat := 0, ctlInForce := 0, kicked := false, restart := 0, missed := 0,
    failedMonitors := [], locs := [], raiseFails := [], lastCauses := 0 }

def Pair.reset : Pair :=
  { last := none, lastAt := 0, signalAt := none, graceUntil := 0, inbox := [], badFrames := 0, gap := 0, newLoss := false,
    fence := true, digestDiff := 0, digestEqual := false, claimSerial := 0, barred := false, txSeq := 0, tx := [], sendWake := false,
    sleepSent := false, peerSleep := false, reports := .replicate 4 none }

def Slot.free : Slot :=
  { granted := false, active := false, owner := .none, mode := 0, band := 0, x := 0, y := 0, w := 0, h := 0, addr := 0,
    stride := 0, order := 0, frames := 0, done := 0, driven := 0, left := 0, stop := 0, text := [] }

def Panel.reset : Panel :=
  { pixels := [], wave := [], work := [], workBad := [], slots := .replicate 16 Slot.free, nextOrder := 0, drive := [], idle := none, frameNo := 0,
    bandSelected := none, parkAllWaits := false, parkAllAt := 0, stopAllReq := false, sagStop := false,
    low := false }

def Hv.reset : Hv :=
  { emodel := .replicate 128 0xFFFFFFFF#32, charged := false, inForce := #v[40, 16, 16, 120], disabled := false,
    cardCause := 0, cardRecord := none, cardText := [], cardWaits := false, cardJudged := false, seqAt := 0, upAt := 0, idleAt := 0,
    faultAt := 0, fallNo := 0, measured := 0 }

def Bank.empty : Bank := { words := [], count := 0 }

def Images.reset : Images :=
  { fw0 := .empty, fw1 := .empty, uc0 := .empty, uc1 := .empty, fwActive := false, ucActive := false, target := 0,
    written := 0, booted := false }

/-- A queue at the reset values of its registers (R188 table). -/
def Queue.reset : Queue :=
  { ringBase := 0, ringLog := 6, cplBase := 0, cplLog := 4, cls := 2, vector := 0, waitTimeout := 0, state := 0,
    stale := false, cplFault := false, badDoorbell := false, ctrlIgnored := false, badRing := false,
    head := 0, tail := 0, cplHead := 0, cplTail := 0, epoch := 0, errPos := 0, errStatus := 0, next := 0,
    listOpen := false, listDue := none, inSlot := false, bells := [], live := [] }

def EngineSt.reset : EngineSt :=
  { running := none, saved := none, lastServed := .replicate 4 0, boundary := false }

def Waiter.reset : Waiter := { obj := 0x1FF, vector := 0, fired := false, armed := false, value := 0 }

def Msix.reset : Msix := { enable := false, unmasked := [], pending := [], table := [] }

def CfgSpace.reset : CfgSpace :=
  { command := 0, bar0 := 0, bar2 := 0, bar2Log := 32, relaxed := true, timeout := 0, aer := 0 }

/-- Reset words of the memory block (MEM_WATERMARK 240 and 224, MEM_PIN_MAX 192, MEM_SCRUB 1). -/
def memBlkReset : Vector Word 16 :=
  #v[0, 0, 0, 0, 0, 0, 0, 0, 0, 0, 0xE0F0, 0, 0, 192, 1, 0]

/-- Reset words of the Weir block (WEIR_CTRL.age 8). -/
def weirBlkReset : Vector Word 8 := #v[8, 0, 0, 0, 0, 0, 0, 0]

/-- Reset words of the page block (PG_CTRL.auto_spill 1). -/
def pageBlkReset : Vector Word 16 := #v[2, 0, 0, 0, 0, 0, 0, 0, 0, 0, 0, 0, 0, 0, 0, 0]

/-- Reset words of the link block (HL_BAR2_SIZE 32). -/
def linkBlkReset : Vector Word 12 := #v[0, 0, 0, 0, 32, 0, 0, 0, 0, 0, 0, 0]

/-- A die in Midnight, with its BAR0 at reset (R104, R189). -/
def DieSt.reset : DieSt :=
  { power := 5, moving := none, selfWoken := false, wakeDoorbell := true, autoIdle := false, doorbellHeld := false,
    msgs := [], events := [], thermSteps := 0, capSteps := 0, rasValid := false, ras := 0, rasAt := 0,
    rasPer := freePeriod, rasGen := 0, rasSeen := 0, rasCap := 0, rasCapValid := false, rasCapGen := 0, t0 := [], t1 := [],
    t1Written := [], poison := [], scrub0 := 0, scrub1 := 0, linkUp := .replicate 4 false, retrainAt := .replicate 4 none,
    queues := .replicate 32 Queue.reset,
    engines := .replicate 3 EngineSt.reset, cmdBlk := .replicate 16 0, memBlk := memBlkReset, weirBlk := weirBlkReset,
    pageBlk := pageBlkReset, linkBlk := linkBlkReset, slotCap := 0, objs := .replicate 256 0, homed := .replicate 16 0,
    objCap := [], bellFrom := none, sigLo := [], waiters := .replicate 32 Waiter.reset, sigOut := [], seen := [],
    page := { deferred := [], spilling := false, moved := [] }, shadowFailed := false, msix := Msix.reset, cfg := CfgSpace.reset,
    pcieUp := false }

def PfSt.reset : PfSt :=
  { status := 0, evPend := 0, intStatus := 0, intMask := 0, ctrl := 1, queues := .replicate 4 Queue.reset, lastServed := 0,
    sigOut := [], seen := [], msix := Msix.reset, cfg := CfgSpace.reset }

/-- The switch before its links have trained: the speeds and widths of R413 for the downstream ports, the upstream link at its first
speed (R413). -/
def Switch.reset : Switch :=
  { upSpeed := 1, upWidth := 16, speed := #v[6, 6, 6, 6, 4], width := #v[16, 16, 16, 16, 1], redirect := .replicate 5 false,
    bufs := .replicate 5 [], turn := 0, sent := [], toPf := .replicate 4 [], pfTurn := 0 }

/-- The tray at the release of power-on reset: MG_STATE BOOT, every die in Midnight, the raster at 0:0.0 (R54, R432, R434),
an empty command queue. -/
def State.reset : State :=
  { pending := [], now := 0, freeCtr := 0, regs := resetRegs, port := { held := none, queue := [], miso := [] },
    pins := { alertN := true, forcedLow := false, wakeN := true, perstN := false }, ras := Raster.reset,
    sup := Supply.reset, pwr := Power.reset, thm := Thermal.reset, tm := Tidemark.reset, saf := Safety.reset,
    pair := Pair.reset, pnl := Panel.reset, hv := Hv.reset, img := Images.reset, dies := .replicate 4 DieSt.reset,
    pf := PfSt.reset, slot := { held := false, due := none, bells := 0 }, out := { msix := [], resp := .none },
    ext := { host := [], twin := .replicate 4 [] }, sw := Switch.reset }

end Sys2Proof.Machine
end

