-- ==== Sys2Proof/Machine/Ops.lean ====
section
/-!
DEFINITION. The named operations over the sparse stores, the management register file, alerts and messages, the raster
time of the tray, Tidemark events, and memory accesses by device address. Nothing else touches these parts directly.
-/
namespace Sys2Proof.Machine

open Sys2Proof

/-! ### Sparse stores -/

/-- What key k reads as; d where it is not listed. -/
def SMap.get {α : Type} (d : α) : SMap α → Nat → α
  | [], _ => d
  | (k, v) :: m, a => if a = k then v else SMap.get d m a

/-- The store with key a holding v, in canonical form: sorted, and no entry equal to the default d. -/
def SMap.set {α : Type} [DecidableEq α] (d : α) : SMap α → Nat → α → SMap α
  | [], a, v => if v = d then [] else [(a, v)]
  | (k, w) :: m, a, v =>
    if a < k then (if v = d then (k, w) :: m else (a, v) :: (k, w) :: m)
    else if a = k then (if v = d then m else (a, v) :: m)
    else (k, w) :: SMap.set d m a v

/-- The canonical form: every key is above lo, keys rise, no value equals the default. -/
def SMap.wfFrom {α : Type} [DecidableEq α] (d : α) : Nat → SMap α → Bool
  | _, [] => true
  | lo, (k, v) :: m => decide (lo ≤ k) && decide (v ≠ d) && SMap.wfFrom d (k + 1) m

/-- The canonical form of a whole store. -/
def SMap.wf {α : Type} [DecidableEq α] (d : α) (m : SMap α) : Bool := SMap.wfFrom d 0 m

/-- One byte of a memory. -/
def Memory.read (m : Memory) (a : Nat) : Byte := SMap.get (0 : Byte) m a

/-- A memory with one byte written. -/
def Memory.write (m : Memory) (a : Nat) (b : Byte) : Memory := SMap.set (0 : Byte) m a b

/-- The canonical form of a memory. -/
def Memory.wf (m : Memory) : Bool := SMap.wf (0 : Byte) m

/-- n bytes from address a. -/
def Memory.readN (m : Memory) (a : Nat) : Nat → List Byte
  | 0 => []
  | n + 1 => Memory.read m a :: Memory.readN m (a + 1) n

/-- The memory with the bytes written from address a on. -/
def Memory.writeN (m : Memory) (a : Nat) : List Byte → Memory
  | [] => m
  | b :: bs => Memory.writeN (Memory.write m a b) (a + 1) bs

/-! ### Times -/

/-- Ticks of 2.5 ns in n microseconds. -/
def usTicks (n : Nat) : Nat := n * 400

/-- Ticks of one mt, 800 us (R29). -/
def mtTicks : Nat := 320000

/-- Fine units (1/1024 ns) of a tick. -/
def fineOfTick (t : Nat) : Nat := t * 2560

/-- The state at a later time; time never runs back (assumption log 1). -/
def State.at (s : State) (t : Nat) : State := { s with now := max s.now t }

/-! ### Management registers -/

/-- The stored word of a management register; 0 beyond the map. -/
def State.reg (s : State) (a : Nat) : Word := s.regs[a]?.getD 0

/-- The state with a management register's stored word replaced. -/
def State.setReg (s : State) (a : Nat) (w : Word) : State := { s with regs := s.regs.setIfInBounds a w }

/-- Bits hi..lo of a management register. -/
def State.fld (s : State) (a hi lo : Nat) : Nat := field (s.reg a) hi lo

/-- Bit i of a management register. -/
def State.bit (s : State) (a i : Nat) : Bool := bitAt (s.reg a) i

/-- The state with bits hi..lo of a management register replaced. -/
def State.setFld (s : State) (a hi lo v : Nat) : State := s.setReg a (setField (s.reg a) hi lo v)

/-- The state with bit i of a management register replaced. -/
def State.putBit (s : State) (a i : Nat) (b : Bool) : State := s.setReg a (setBit (s.reg a) i b)

/-- A field raised by n, saturating at its width (R6 counting fields). -/
def State.bumpSat (s : State) (a hi lo n : Nat) : State :=
  s.setFld a hi lo (satAt (2 ^ (hi + 1 - lo) - 1) (s.fld a hi lo + n))

/-- A field raised by one, wrapping. -/
def State.bumpWrap (s : State) (a hi lo : Nat) : State := s.setFld a hi lo (s.fld a hi lo + 1)

/-- One draw of the free values: the index for Config's free constants, and the state that has used it (log 7). -/
def State.draw (s : State) : Nat × State := (s.freeCtr, { s with freeCtr := s.freeCtr + 1 })

/-- n free bytes: what a slot that failed its read-back holds (R408), or an unreadable command's slot gave (R186; log 7). -/
def State.freeBytes (s : State) : Nat → List Byte × State
  | 0 => ([], s)
  | n + 1 =>
    let (k, s) := s.draw
    let (bs, s) := s.freeBytes n
    (Config.freeByte k :: bs, s)

/-! ### Queue registers, MSI-X words and the Prilliner's BAR0 as read (R164, R188, R424, R430) -/

/-- Completion records the host has not consumed (R181). -/
def Queue.unconsumed (q : Queue) : Nat := (q.cplTail - q.cplHead).toNat

/-- No record slot is free (R181). -/
def Queue.full (q : Queue) : Bool := decide (q.state ≠ 0) && decide (2 ^ q.cplLog ≤ q.unconsumed)

/-- Q_STATUS. -/
def Queue.status (q : Queue) : Word :=
  BitVec.ofNat 32 (q.state % 4 + 4 * b2n q.stale + 8 * b2n q.full + 16 * b2n q.cplFault + 32 * b2n q.badDoorbell
    + 64 * b2n q.ctrlIgnored + 128 * b2n q.badRing)

/-- Q_CFG. -/
def Queue.cfg (q : Queue) : Word := BitVec.ofNat 32 (q.cls % 4 + 4 * (q.vector % 2048) + 65536 * (q.waitTimeout % 256))

/-- A read at offset o of a queue's block. -/
def Queue.read (q : Queue) (o : Nat) : Word :=
  match o / 4 with
  | 0 => BitVec.ofNat 32 q.ringBase
  | 1 => BitVec.ofNat 32 (q.ringBase / 2 ^ 32)
  | 2 => BitVec.ofNat 32 q.ringLog
  | 3 => BitVec.ofNat 32 q.cplBase
  | 4 => BitVec.ofNat 32 (q.cplBase / 2 ^ 32)
  | 5 => BitVec.ofNat 32 q.cplLog
  | 6 => q.cfg
  | 8 => q.status
  | 9 => q.head
  | 10 => q.tail
  | 11 => q.cplHead
  | 12 => q.cplTail
  | 13 => q.epoch
  | 14 => q.errPos
  | 15 => BitVec.ofNat 32 q.errStatus
  | _ => 0

/-- The MSI-X part of a function. -/
def State.msixOf (s : State) : Fn → Msix
  | .die d => s.dies[d].msix
  | .pf => s.pf.msix

/-- A read of one word of the MSI-X table. -/
def State.readMsix (s : State) (fn : Fn) (word : Nat) : Word :=
  let m := s.msixOf fn
  if word % 4 ≠ 3 then SMap.get 0 m.table word else if m.unmasked.contains (word / 4) then 0 else 1

/-- A read of one word of the Pending Bit Array. -/
def State.readPba (s : State) (fn : Fn) (word : Nat) : Word :=
  ((s.msixOf fn).pending.filter (fun v => v / 32 = word)).foldl (fun (w : Word) v => setBit w (v % 32) true) 0

/-- An aligned 32-bit read at offset o of the Prilliner's BAR0. -/
def State.pfBar0Read (s : State) (o : Nat) : Word :=
  if o = 0x00 then s.pf.status
  else if o = 0x08 then s.pf.intStatus
  else if o = 0x0C then s.pf.intMask
  else if o = 0x10 then s.pf.ctrl
  else if 0x1000 ≤ o ∧ o < 0x1100 then s.pf.queues[(Fin.ofNat 4 ((o - 0x1000) / 64) : Fin 4)].read (o % 64)
  else if 0x10000 ≤ o ∧ o < 0x14000 then
    (if o % 0x1000 = 0 then s.pf.queues[(Fin.ofNat 4 ((o - 0x10000) / 0x1000) : Fin 4)].tail else 0)
  else if 0x20000 ≤ o ∧ o < 0x20200 then s.readMsix .pf ((o - 0x20000) / 4)
  else if 0x21000 ≤ o ∧ o < 0x21004 then s.readPba .pf ((o - 0x21000) / 4)
  else 0

/-- A byte of the Prilliner's BAR0 as a die reads it, in aligned 32-bit reads (R416, R419; assumption log 45). -/
def State.pfByte (s : State) (o : Nat) : Byte := BitVec.ofNat 8 ((s.pfBar0Read (o / 4 * 4)).toNat / 256 ^ (o % 4))

/-! ### Roles and location codes (R41, R42) -/

/-- The role field of a location code: 1 tray A, 2 tray B. -/
def State.role (s : State) : Nat := if s.bit R.ID_STRAPS 0 then 2 else 1

/-- A location code without a core (R42). -/
def State.loc (s : State) (unit die sub inst : Nat) : Word :=
  BitVec.ofNat 32 (s.role * 2 ^ 30 + unit * 2 ^ 27 + die * 2 ^ 24 + sub * 256 + inst)

/-- A location code that names a core (R42). -/
def State.locCore (s : State) (die core sub inst : Nat) : Word :=
  BitVec.ofNat 32 (s.role * 2 ^ 30 + die * 2 ^ 24 + core * 2 ^ 17 + 2 ^ 16 + sub * 256 + inst)

/-- The location code of the Prilliner itself (R394). -/
def State.locPril (s : State) : Word := s.loc 1 0 0 0

/-- The location code of a device address of die d in tier 0 or tier 1 (R40, R42, R138). -/
def State.locMem (s : State) (d a : Nat) : Word :=
  if a < 0x80000000 then s.locCore d (a / 0x1000000) 4 (a / 0x400000 % 4)
  else s.loc 0 d 6 (a / 256 % 32)

/-- A location code where the spec does not say which part it names: a free one among those R42's layout has for this tray, so its
role field, its reserved bits and the fields that must be 0 are as R42 says (assumption log 7). -/
def State.freeLoc (s : State) : Word × State :=
  let (n, s) := s.draw
  let f (k : Nat) : Nat := Config.freeAt n k
  let unit := f 0 % 8
  let die := if unit = 0 ∨ unit = 7 then f 1 % 4 else 0
  let core := if unit = 0 ∧ f 2 % 2 = 1 then f 3 % 128 * 2 ^ 17 + 2 ^ 16 else 0
  (BitVec.ofNat 32 (s.role * 2 ^ 30 + unit * 2 ^ 27 + die * 2 ^ 24 + core + f 4 % 13 * 256 + f 5 % 256), s)

/-! ### Raster time of the tray (R49) -/

/-- A timestamp from frame, line and fraction (R15). -/
def mkStamp (f l fr : Nat) : DWord := BitVec.ofNat 64 (f % 2 ^ 40 * 2 ^ 24 + l % 4096 * 4096 + fr % 4096)

def stampFrame (t : DWord) : Nat := t.toNat / 2 ^ 24
def stampLine (t : DWord) : Nat := t.toNat / 4096 % 4096
def stampFrac (t : DWord) : Nat := t.toNat % 4096

/-- Lines per frame now (RAS_LINES). -/
def State.lines (s : State) : Nat := s.fld R.RAS_LINES 11 0

/-- The period of the tray's own lines now, fine units: the reference's in LOCKED, longer by 64/63 in SLEWING (R62), and by
(N + 1)/N or (N - 1)/N while tray B slews towards its peer (R378). -/
def State.linePer (s : State) : Nat :=
  let p := if s.fld R.RAS_STATUS 2 0 = 4 then s.ras.per * 64 / 63 else s.ras.per
  if s.ras.pairSlew = 1 then p * (s.lines + 1) / s.lines
  else if s.ras.pairSlew = 2 then p * (s.lines - 1) / s.lines else p

/-- The tray raster time now: the fraction runs at the line period and saturates at 4,095 (R57). In Small hours it holds the value
it had on entry (R64). -/
def State.trayRaster (s : State) : DWord :=
  let t := if s.pwr.smallHours then s.ras.stopAt else s.now
  mkStamp s.ras.frame s.ras.line (min 4095 ((fineOfTick t - s.ras.lineAt) * 4096 / s.linePer))

/-- The raster addition of R51 (raster_add). -/
def rasterAdd (t : DWord) (d n : Nat) : DWord :=
  let total := stampLine t * 4096 + stampFrac t + d
  let rem := total % (n * 4096)
  mkStamp (stampFrame t + total / (n * 4096)) (rem / 4096) (rem % 4096)

/-- The raster distance of R51 (raster_diff). -/
def rasterDiff (a b : DWord) (n : Nat) : Int :=
  ((stampFrame b : Int) - stampFrame a) * (n * 4096 : Nat) + ((stampLine b : Int) - stampLine a) * 4096
    + ((stampFrac b : Int) - stampFrac a)

/-- RAS_GEN raised by one (R51). -/
def State.raiseGen (s : State) : State := s.bumpWrap R.RAS_GEN 15 0

/-! ### MSI-X and the Prilliner's events (R424, R425, R429) -/

/-- The switch is powered: PERST_N high and not in Small hours (R414). -/
def State.switchOn (s : State) : Bool := s.pins.perstN && !s.pwr.smallHours

/-- A message on a vector of a function's MSI-X table: the table after it, and whether it leaves (R424). -/
def Msix.send (m : Msix) (v : Nat) : Msix × Bool :=
  if !m.enable then (m, false)
  else if m.unmasked.contains v then (m, true)
  else (if m.pending.contains v then m else { m with pending := m.pending ++ [v] }, false)

/-- A message of the Prilliner function; one that cannot leave because the switch is unpowered is lost (R425). -/
def State.pfMsix (s : State) (v : Nat) : State :=
  if !s.switchOn then s
  else
    let (m, go) := s.pf.msix.send v
    let s := { s with pf := { s.pf with msix := m } }
    if go then { s with out := { s.out with msix := s.out.msix ++ [(Fn.pf, v)] } } else s

/-- Event bit k of PF_INT_STATUS sets (R425): a message on a change from 0 to 1 while unmasked, and WAKE_N for a supply,
thermal or safety event while PERST_N is low (R429). -/
def State.pfEvent (s : State) (k : Nat) : State :=
  let was := bitAt s.pf.intStatus k
  let s := { s with pf := { s.pf with intStatus := setBit s.pf.intStatus k true } }
  let s := if k ≤ 2 && !s.pins.perstN && bitAt s.pf.ctrl 0 then { s with pins := { s.pins with wakeN := false } } else s
  if !was && !bitAt s.pf.intMask k then s.pfMsix k else s

/-- Which event vector an alert bit belongs to (R425). -/
def eventOf (a i : Nat) : Option Nat :=
  if a = R.SUP_ALERT then (if i = 0 ∨ i = 1 ∨ i = 4 then some 0 else none)
  else if a = R.THM_ALERT then (if i = 0 ∨ i = 1 ∨ i = 10 then some 1 else none)
  else if a = R.SAF_ALERT then (if i = 0 ∨ i = 1 then some 2 else none)
  else if a = R.PNL_ALERT ∨ a = R.HV_ALERT then some 3
  else if a = R.PAIR_ALERT then some 4
  else none

/-- Alert bit i of alert register a sets; its event message waits for the boundary (R86, R425). -/
def State.alert (s : State) (a i : Nat) : State :=
  let s := s.putBit a i true
  match eventOf a i with
  | some k => { s with pf := { s.pf with evPend := s.pf.evPend ||| 2 ^ k } }
  | none => s

/-- Alert bit i of register a sets if b. -/
def State.alertIf (s : State) (b : Bool) (a i : Nat) : State := if b then s.alert a i else s

/-- An urgent cause (R87): its alert bit, ALERT_SRC.urgent, ALERT_N low at once. -/
def State.urgent (s : State) (a i : Nat) : State :=
  let s := (s.alert a i).putBit R.ALERT_SRC 8 true
  { s with pins := { s.pins with alertN := false } }

/-- An urgent cause that a start restores (R87, R441): its alert bit and ALERT_SRC.urgent; ALERT_N follows at the boundary. -/
def State.urgentBoot (s : State) (a i : Nat) : State := (s.alert a i).putBit R.ALERT_SRC 8 true

/-- An urgent cause whose event message is sent at once (R98, R127, R425). -/
def State.urgentNow (s : State) (a i k : Nat) : State :=
  let s := (s.urgent a i).pfEvent k
  { s with pf := { s.pf with evPend := if s.pf.evPend.testBit k then s.pf.evPend - 2 ^ k else s.pf.evPend } }

/-! ### Tidemark events (R134) -/

/-- An event is queued to be written as a record, with the raster time, tick and epoch of its cause. -/
def State.logEvent (s : State) (kind : Nat) (loc : Word) (payload : List Byte) : State :=
  let e : TmEvent :=
    { kind := kind, rasterValid := true, raster := s.trayRaster, tick := s.reg R.MG_TICK, location := loc,
      payload := (payload ++ List.replicate 32 0).take 32, epoch := s.reg R.CFG_EPOCH }
  { s with tm := { s.tm with pend := s.tm.pend ++ [e] } }

/-! ### Dies -/

/-- The state with die d changed. -/
def State.modDie (s : State) (d : Die) (f : DieSt → DieSt) : State :=
  { s with dies := s.dies.set d (f s.dies[d]) }

/-- A die message on vector v (R424). -/
def State.dieMsix (s : State) (d : Die) (v : Nat) : State :=
  let (m, go) := s.dies[d].msix.send v
  let s := s.modDie d (fun x => { x with msix := m })
  if go then { s with out := { s.out with msix := s.out.msix ++ [(Fn.die d, v)] } } else s

/-- INT_STATUS bit k of die d sets; a message on INT_VEC on a change from 0 to 1 while unmasked (R424). -/
def State.dieInt (s : State) (d : Die) (k : Nat) : State :=
  let w := s.dies[d].linkBlk[8]
  let s' := s.modDie d (fun x => { x with linkBlk := x.linkBlk.set 8 (setBit w k true) })
  if !bitAt w k && !bitAt s.dies[d].linkBlk[9] k then s'.dieMsix d (field s.dies[d].linkBlk[10] 10 0) else s'

/-- MEM_ALERT bit i of die d sets, and INT_STATUS.mem_alert with it. -/
def State.memAlert (s : State) (d : Die) (i : Nat) : State :=
  (s.modDie d (fun x => { x with memBlk := x.memBlk.set 15 (setBit x.memBlk[15] i true) })).dieInt d 1

/-- WEIR_ALERT bit i of die d sets, and INT_STATUS.weir with it. -/
def State.weirAlert (s : State) (d : Die) (i : Nat) : State :=
  (s.modDie d (fun x => { x with weirBlk := x.weirBlk.set 6 (setBit x.weirBlk[6] i true) })).dieInt d 4

/-- PG_ALERT bit i of die d sets, and INT_STATUS.page with it. -/
def State.pageAlert (s : State) (d : Die) (i : Nat) : State :=
  (s.modDie d (fun x => { x with pageBlk := x.pageBlk.set 15 (setBit x.pageBlk[15] i true) })).dieInt d 5

/-- The Prilliner sends a bridge message: a powered die gets it in order; for an unpowered die only the latest of each kind
is held (R35). -/
def sameKind : BridgeMsg → BridgeMsg → Bool
  | .power _, .power _ => true
  | .throttle _ _, .throttle _ _ => true
  | .epoch _, .epoch _ => true
  | .wakeConfig _ _, .wakeConfig _ _ => true
  | _, _ => false

def State.bridgeSend (s : State) (d : Die) (m : BridgeMsg) : State :=
  s.modDie d (fun x =>
    if x.power < 5 then { x with msgs := x.msgs ++ [m] }
    else { x with msgs := x.msgs.filter (fun y => !sameKind y m) ++ [m] })

/-- A die's event towards the Prilliner (R33). -/
def State.bridgeEvent (s : State) (d : Die) (e : DieEvent) : State :=
  s.modDie d (fun x => { x with events := x.events ++ [e] })

/-! ### The host's access to a function (R414, R415, R443) -/

/-- The host reaches the BARs of a function: the switch is powered, and the die is above Midnight with its port trained, or the
Prilliner has not stopped. -/
def State.reachable (s : State) : Fn → Bool
  | .die d => s.switchOn && decide (s.dies[d].power < 5) && s.dies[d].pcieUp
  | .pf => s.switchOn && !s.pwr.stopped

/-- AER or Status error bit i of a function (R426). -/
def State.aerBit (s : State) (fn : Fn) (i : Nat) : State :=
  let put (c : CfgSpace) : CfgSpace := { c with aer := c.aer ||| 2 ^ i }
  match fn with
  | .die d => s.modDie d (fun x => { x with cfg := put x.cfg })
  | .pf => { s with pf := { s.pf with cfg := put s.pf.cfg } }

/-- A memory request that a function cannot take completes with UR at its switch port (R415, R426); with the switch off it
reaches nothing. -/
def State.portUr (s : State) (fn : Fn) : State := if s.switchOn then s.aerBit fn 8 else s

/-! ### Memory accesses by device address (R140-R152) -/

/-- Who makes an access (MEM_ERR_INFO.requester codes). -/
inductive Requester where
  | engine (e : Engine) (q : Nat)
  | bar2
  | peer
  | twin
  | scrub
  deriving DecidableEq, Repr

/-- Where a device address leads. -/
inductive Target where
  | die (d : Die) (a : Nat)
  | host (h : Nat)
  | work (o : Nat)
  | pfRegs (o : Nat)
  | twin (d : Die) (o : Nat)
  deriving DecidableEq, Repr

/-- Status codes of the memory system (R184). -/
abbrev stOk : Nat := 0
abbrev stMemRange : Nat := 0x201
abbrev stPeerUnavail : Nat := 0x202
abbrev stLinkDown : Nat := 0x203
abbrev stMemUe : Nat := 0x204

/-- An address lies in local tier 0 or tier 1 (R140). -/
def isLocal (a : Nat) : Bool := a < 0x80000000 || (0x1000000000 ≤ a && a < 0x2800000000)

/-- The address lies in no tier and no window (R140). -/
def unmapped (a : Nat) : Bool := (0x80000000 ≤ a && a < 0x1000000000) || (0x2800000000 ≤ a && a < 0x400000000000)

/-- The tier code of MEM_ERR_INFO (0, 1, 2, 3) of a mapped address. -/
def tierOf (a : Nat) : Nat :=
  if a < 0x80000000 then 0 else if a < 0x2800000000 then 1
  else if a < 0x800000000000 then 2 else 3

/-- The link of die d towards die e (R20): (e - d - 1) mod 4. -/
def linkTo (d e : Die) : Fin 4 := e - d - 1

/-- The twin's dies are in Evening or shallower, by its last valid frame (R144, R380). -/
def State.twinAwake (s : State) (d : Die) : Bool :=
  match s.pair.last with
  | some f => decide (f.dies / 8 ^ d.val % 8 ≤ 2)
  | none => false

/-- The pair state is PAIRED and the fence is open (R144, R383). -/
def State.twinOpen (s : State) : Bool := decide (s.fld R.PAIR_STATE 2 0 = 2) && !s.pair.fence

/-- PAIR_FEATURES.agreed bit i (R376). -/
def State.agreed (s : State) (i : Nat) : Bool := s.bit R.PAIR_FEATURES (16 + i)

/-- Where device address a of die d leads for an engine of that die, or the status with which the access fails (R140, R144, R145). A
host window address in a BAR of the Prilliner goes to port 4, or through the host where ACS P2P Request Redirect is set on the die's
port (R416). -/
def State.route (s : State) (d : Die) (twinAllowed : Bool) (a : Nat) : Except Nat Target :=
  if isLocal a then .ok (.die d a)
  else if a < 0x400000000000 then .error stMemRange
  else if a < 0x800000000000 then
    let h := a - 0x400000000000
    let inBar2 (b : CfgSpace) (size : Nat) := decide (b.bar2 ≠ 0) && decide (b.bar2 ≤ h) && decide (h < b.bar2 + size)
    let inBar0 (b : CfgSpace) (size : Nat) := decide (b.bar0 ≠ 0) && decide (b.bar0 ≤ h) && decide (h < b.bar0 + size)
    let other (e : Die) := e ≠ d && (inBar0 s.dies[e].cfg 0x2000000 || inBar2 s.dies[e].cfg (2 ^ s.dies[e].cfg.bar2Log))
    if [0, 1, 2, 3].any other then .error stMemRange
    else if s.sw.redirect[d.val] then .ok (.host h)
    else if inBar2 s.pf.cfg 0x800000 then .ok (.work (h - s.pf.cfg.bar2))
    else if inBar0 s.pf.cfg 0x40000 then .ok (.pfRegs (h - s.pf.cfg.bar0))
    else .ok (.host h)
  else if 2 ^ 48 ≤ a then .error stMemRange
  else if a < 0xC00000000000 then
    let e : Die := Fin.ofNat 4 ((a - 0x800000000000) / 2 ^ 44)
    let o := a % 2 ^ 44
    if !isLocal o then .error stMemRange
    else if e = d then .ok (.die d o)
    else if s.dies[e].power > 2 then .error stPeerUnavail
    else if !s.dies[d].linkUp[linkTo d e] then .error stLinkDown
    else .ok (.die e o)
  else
    let e : Die := Fin.ofNat 4 ((a - 0xC00000000000) / 2 ^ 44)
    let o := a % 2 ^ 44
    if !twinAllowed || !isLocal o then .error stMemRange
    else if !s.twinOpen || !s.twinAwake e then .error stPeerUnavail
    else if e ≠ d && s.dies[e].power > 2 then .error stPeerUnavail
    else if e ≠ d && !s.dies[d].linkUp[linkTo d e] then .error stLinkDown
    else if !s.dies[e].linkUp[(3 : Fin 4)] then .error stLinkDown
    else .ok (.twin e o)

/-- Where a device address leads for a function's engines: for the Prilliner, work SRAM and the host window (R346, R430). -/
def State.routeFn (s : State) (fn : Fn) (twinAllowed : Bool) (a : Nat) : Except Nat Target :=
  match fn with
  | .die d => s.route d twinAllowed a
  | .pf =>
    if a < 0x800000 then .ok (.work a)
    else if 0x400000000000 ≤ a ∧ a < 0x800000000000 then .ok (.host (a - 0x400000000000))
    else .error stMemRange

/-- One byte of memory at a target; the Prilliner's registers are none. -/
def State.peek (s : State) : Target → Byte
  | .die d a => if a < 0x80000000 then s.dies[d].t0.read a else s.dies[d].t1.read a
  | .host h => s.ext.host.read h
  | .work o => s.pnl.work.read o
  | .pfRegs _ => 0
  | .twin d o => s.ext.twin[d].read o

/-- First address of the ECC unit of a die address (R147): 8 bytes in tier 0, 32 in tier 1. -/
def unitOf (a : Nat) : Nat := if a < 0x80000000 then a / 8 * 8 else a / 32 * 32
/-- Bytes of that unit. -/
def unitSize (a : Nat) : Nat := if a < 0x80000000 then 8 else 32

/-- The target's unit is poisoned; true in the pair's second place for a unit poisoned by propagation (R151). -/
def State.poisonAt (s : State) : Target → Option Bool
  | .die d a => (s.dies[d].poison.find? (fun u => u.unit == unitOf a)).map BadUnit.prop
  | .work o => if s.pnl.workBad.contains (o / 8 * 8) then some false else none
  | _ => none

/-- One byte written at a target. A tier 1 write marks its 2 MiB region written (R152). -/
def State.poke (s : State) (t : Target) (b : Byte) : State :=
  match t with
  | .die d a =>
    if a < 0x80000000 then s.modDie d (fun x => { x with t0 := x.t0.write a b })
    else s.modDie d (fun x =>
      { x with t1 := x.t1.write a b,
               t1Written := if x.t1Written.contains (a / 0x200000) then x.t1Written else x.t1Written ++ [a / 0x200000] })
  | .host h => { s with ext := { s.ext with host := s.ext.host.write h b } }
  | .work o => { s with pnl := { s.pnl with work := s.pnl.work.write o b } }
  | .pfRegs _ => s
  | .twin d o => { s with ext := { s.ext with twin := s.ext.twin.set d (s.ext.twin[d].write o b) } }

/-- The poison mark of one unit of die d set or cleared (R151). -/
def State.setPoison (s : State) (d : Die) (u : Nat) (p : Option Bool) : State :=
  s.modDie d (fun x =>
    let rest := x.poison.filter (fun y => y.unit != u)
    { x with poison := match p with | some b => rest ++ [{ unit := u, prop := b, done := 0 }] | none => rest })

/-- A byte of die d that memory holds: in tier 0, or in a tier 1 region that has been written (R152). -/
def State.written (s : State) (d : Die) (a : Nat) : Bool :=
  decide (a < 0x80000000) || s.dies[d].t1Written.contains (a / 0x200000)

/-- The status of an access to n bytes from a: the first failure met in ascending address order (R140, R144, R145). -/
def State.accessStatus (s : State) (fn : Fn) (twinAllowed : Bool) (a n : Nat) : Nat :=
  match s.routeFn fn twinAllowed a, s.routeFn fn twinAllowed (a + (n - 1)) with
  | .error e, _ => e
  | _, .error e => e
  | .ok t, .ok u =>
    match t, u with
    | .die x p, .die y q => if x = y ∧ tierOf p = tierOf q then stOk else stMemRange
    | .host _, .host _ => stOk
    | .work _, .work q => if q < 0x800000 then stOk else stMemRange
    | .pfRegs _, .pfRegs _ => stOk
    | .twin x p, .twin y q => if x = y ∧ tierOf p = tierOf q then stOk else stMemRange
    | _, _ => stMemRange

/-- The byte that a device address gives: memory's, or a register's of the Prilliner. -/
def State.loadByte (s : State) (fn : Fn) (twinAllowed : Bool) (a : Nat) : Byte :=
  match s.routeFn fn twinAllowed a with
  | .ok (.pfRegs o) => s.pfByte o
  | .ok t => s.peek t
  | .error _ => 0

/-- The bytes of an access whose status is OK. -/
def State.loadN (s : State) (fn : Fn) (twinAllowed : Bool) (a : Nat) : Nat → List Byte
  | 0 => []
  | n + 1 => s.loadByte fn twinAllowed a :: s.loadN fn twinAllowed (a + 1) n

/-- Some unit of the n bytes from a is poisoned. -/
def State.anyPoison (s : State) (fn : Fn) (twinAllowed : Bool) (a : Nat) : Nat → Bool
  | 0 => false
  | n + 1 =>
    (match s.routeFn fn twinAllowed a with | .ok t => (s.poisonAt t).isSome | .error _ => false)
      || s.anyPoison fn twinAllowed (a + 1) n

/-- Bytes written one after another from address a; a byte whose address leads nowhere is not written. -/
def State.storeRaw (s : State) (fn : Fn) (twinAllowed : Bool) (a : Nat) : List Byte → State
  | [] => s
  | b :: bs =>
    State.storeRaw (match s.routeFn fn twinAllowed a with | .ok t => s.poke t b | .error _ => s) fn twinAllowed (a + 1) bs

/-- The bytes of a unit from u that lie in o .. o + n - 1, as a mask. -/
def unitMask (u o n : Nat) : Nat :=
  ((List.range (unitSize u)).filter (fun i => decide (o ≤ u + i) && decide (u + i < o + n))).foldl (fun m i => m ||| 2 ^ i) 0

/-- Bytes o .. o + n - 1 of die e have been rewritten: a unit of which every byte has been rewritten loses its poison (R151). -/
def State.healUnits (s : State) (e : Die) (o n : Nat) : State :=
  s.modDie e (fun x =>
    let marked := x.poison.map (fun u => { u with done := u.done ||| unitMask u.unit o n })
    { x with poison := marked.filter (fun u => !decide (u.done = 2 ^ unitSize u.unit - 1)) })

/-- Every unit of die e that the bytes o .. o + n - 1 touch becomes poisoned by propagation (R151). -/
def State.spoilUnits (s : State) (e : Die) (o : Nat) : Nat → State
  | 0 => s
  | n + 1 =>
    let s := s.spoilUnits e o n
    if unitOf (o + n) = o + n ∨ n = 0 then s.setPoison e (unitOf (o + n)) (some true) else s

/-- Words o .. o + n - 1 of the Prilliner's BAR0 that a die writes: each aligned word written whole is one 32-bit write, and a word written
in part is a write of another width (R416, R419; assumption log 45). They wait at port 4 (R417). -/
def State.postPf (s : State) (d : Die) (o : Nat) (bs : List Byte) : State :=
  let words := ((List.range bs.length).map (fun i => (o + i) / 4)).eraseDups
  let ws := words.map (fun w =>
    let inside := (List.range 4).filter (fun i => decide (o ≤ 4 * w + i) && decide (4 * w + i < o + bs.length))
    (4 * w, BitVec.ofNat 32 (leNat ((List.range 4).map (fun i => bs.getD (4 * w + i - o) 0))), inside.length))
  { s with sw := { s.sw with toPf := s.sw.toPf.set d (s.sw.toPf[d] ++ ws) } }

/-- A write of bytes from device address a whose status is OK. With `ep` the units written become poisoned; otherwise units
rewritten whole lose their poison (R151). -/
def State.storeN (s : State) (fn : Fn) (twinAllowed : Bool) (a : Nat) (bs : List Byte) (ep : Bool) : State :=
  let s' := s.storeRaw fn twinAllowed a bs
  match s.routeFn fn twinAllowed a with
  | .ok (.die e o) => if ep then s'.spoilUnits e o bs.length else s'.healUnits e o bs.length
  | .ok (.work o) =>
    { s' with pnl := { s'.pnl with
        workBad := s'.pnl.workBad.filter (fun u => !(decide (o ≤ u) && decide (u + 8 ≤ o + bs.length))) } }
  | .ok (.pfRegs o) => match fn with
    | .die d => s'.postPf d o bs
    | .pf => s'
  | _ => s'

/-! ### Upstream traffic (R157, R417, R423) -/

/-- The switch port of a function (R412). -/
def portOf : Fn → Fin 5
  | .die d => Fin.ofNat 5 d.val
  | .pf => 4

/-- One grant of the upstream port: round robin over the ports from the one whose turn it is, one TLP (R417). -/
def Switch.grant (w : Switch) : Switch :=
  match (List.range 5).find? (fun i => !(w.bufs[(Fin.ofNat 5 (w.turn.val + i) : Fin 5)]).isEmpty) with
  | none => w
  | some i =>
    let p : Fin 5 := Fin.ofNat 5 (w.turn.val + i)
    match w.bufs[p] with
    | t :: rest => { w with bufs := w.bufs.set p rest, sent := w.sent ++ [t], turn := p + 1 }
    | [] => w

/-- n grants. -/
def Switch.grants (w : Switch) : Nat → Switch
  | 0 => w
  | n + 1 => w.grant.grants n

/-- Bytes that wait at port p. -/
def Switch.waiting (w : Switch) (p : Fin 5) : Nat := (w.bufs[p].map Tlp.len).sum

/-- Posted bytes that port p may have waiting: 16 KiB in the switch, and 8 KiB in a die's endpoint (R417). -/
def portRoom (p : Fin 5) : Nat := if p.val < 4 then 24576 else 16384

/-- A TLP joins its port's posted writes; grants are made until they are within what the buffers hold (R417). -/
def Switch.accept (w : Switch) (p : Fin 5) (t : Tlp) : Switch :=
  let w := { w with bufs := w.bufs.set p (w.bufs[p] ++ [t]) }
  (List.range (5 * (w.bufs[p].length + 1))).foldl (fun (w : Switch) _ => if portRoom p < w.waiting p then w.grant else w) w

/-- A write of n bytes that a function makes at device address a goes upstream where it leads to the host: in TLPs of at most 512
bytes, with Relaxed Ordering only for data of a command under RC_CTRL.ro_data and Enable Relaxed Ordering (R157, R423), and EP on
one that carries poisoned bytes (R151). How many grants are made meanwhile is free (R417; assumption log 60). -/
def State.postUp (s : State) (fn : Fn) (twinAllowed : Bool) (a n : Nat) (data : Bool) (bad : Nat → Bool) : State :=
  match s.routeFn fn twinAllowed a with
  | .ok (.host h) =>
    let ro := data && (match fn with | .die d => bitAt s.dies[d].linkBlk[0] 0 && s.dies[d].cfg.relaxed | .pf => false)
    let ts := (List.range (ceilDiv n 512)).map (fun k =>
      let len := min 512 (n - 512 * k)
      ({ fn := fn, addr := h + 512 * k, len := len, ro := ro, ep := (List.range len).any (fun i => bad (512 * k + i)) } : Tlp))
    let (k, s) := s.draw
    { s with sw := (ts.foldl (fun (w : Switch) t => w.accept (portOf fn) t) s.sw).grants (Config.freeNat k) }
  | _ => s

/-! ### The memory error log (R149, R150) -/

/-- MEM_ERR_STATUS bit and MEM_ERR_INFO kind: 1 UE, 2 POISON, 3 RANGE, 4 LINK_DOWN, 5 PEER_UNAVAIL. -/
def kindOfStatus (st : Nat) : Nat :=
  if st = stMemRange then 3 else if st = stLinkDown then 4 else if st = stPeerUnavail then 5 else 2

/-- The requester, queue and queue_valid fields of MEM_ERR_INFO. -/
def requesterBits : Requester → Nat
  | .engine .compute q => 0 * 64 + q * 512 + 2 ^ 14
  | .engine .copy q => 1 * 64 + q * 512 + 2 ^ 14
  | .engine .page q => 2 * 64 + q * 512 + 2 ^ 14
  | .engine .panel q => 2 * 64 + q * 512 + 2 ^ 14
  | .bar2 => 3 * 64
  | .peer => 4 * 64
  | .twin => 5 * 64
  | .scrub => 6 * 64

/-- A memory error of die d is recorded: the log takes the first event after it was cleared, every error is counted, an
error met while the log is occupied sets overflow (R149, R150); INT_STATUS.mem_err with its message. The tier of an unmapped
address is free (assumption log 7). -/
def State.logMemError (s : State) (d : Die) (kind a : Nat) (loc : Word) (who : Requester) (isWrite : Bool) : State :=
  let (n, s) := if unmapped a then s.draw else (0, s)
  let tier := if unmapped a then Config.freeNat n % 4 else tierOf a
  let m := s.dies[d].memBlk
  let free := field m[0] 4 0 = 0
  let m := if kind = 1 then m.set 6 (setField m[6] 15 0 (satAt 0xFFFF (field m[6] 15 0 + 1)))
           else m.set 6 (setField m[6] 31 16 (satAt 0xFFFF (field m[6] 31 16 + 1)))
  let m := if free then
      let m := m.set 0 (setBit m[0] (kind - 1) true)
      let m := m.set 1 loc
      let m := m.set 2 (BitVec.ofNat 32 a)
      let m := m.set 3 (BitVec.ofNat 32 (a / 2 ^ 32 % 2 ^ 16))
      m.set 4 (BitVec.ofNat 32 (kind + tier * 16 + requesterBits who + b2n isWrite * 2 ^ 15))
    else m.set 0 (setBit m[0] 5 true)
  (s.modDie d (fun x => { x with memBlk := m })).dieInt d 0

/-- An uncorrectable error is also a plane-bridge event (R149). -/
def State.reportUe (s : State) (d : Die) (loc : Word) : State := s.bridgeEvent d (.memUe loc)

/-- A corrected error at an address of die d is counted (R147). -/
def State.countCorrected (s : State) (d : Die) (a : Nat) : State :=
  let (hi, lo) := if a < 0x80000000 then (15, 0) else (31, 16)
  s.modDie d (fun x => { x with memBlk := x.memBlk.set 5 (setField x.memBlk[5] hi lo (satAt 0xFFFF (field x.memBlk[5] hi lo + 1))) })

/-! ### Checked accesses (R146, R149, R151) -/

/-- What a failed access met: status, MEM_ERR_INFO kind, device address. -/
structure MemFail where
  status : Nat
  kind : Nat
  addr : Nat
  deriving DecidableEq, Repr

/-- The first poisoned byte of n bytes from a, with whether its unit was poisoned by propagation. -/
def State.firstPoison (s : State) (fn : Fn) (tw : Bool) (a : Nat) : Nat → Option (Nat × Bool)
  | 0 => none
  | n + 1 =>
    match s.routeFn fn tw a with
    | .ok t => match s.poisonAt t with
      | some p => some (a, p)
      | none => s.firstPoison fn tw (a + 1) n
    | .error _ => s.firstPoison fn tw (a + 1) n

/-- What a read of n bytes from a meets: an address failure, else poisoned data (R151), else nothing. -/
def State.readCheck (s : State) (fn : Fn) (tw : Bool) (a n : Nat) : Option MemFail :=
  let st := s.accessStatus fn tw a n
  if st ≠ stOk then some { status := st, kind := kindOfStatus st, addr := a }
  else match s.firstPoison fn tw a n with
    | some (b, prop) => some { status := stMemUe, kind := if prop then 2 else 1, addr := b }
    | none => none

/-- What a write of n bytes from a meets. -/
def State.writeCheck (s : State) (fn : Fn) (tw : Bool) (a n : Nat) : Option MemFail :=
  let st := s.accessStatus fn tw a n
  if st ≠ stOk then some { status := st, kind := kindOfStatus st, addr := a } else none

/-- The link a failed access of die d would have crossed (R20, R21). -/
def linkLoc (s : State) (d : Die) (a : Nat) : Word :=
  if a < 0xC00000000000 then
    s.loc 0 d.val 7 (linkTo d (Fin.ofNat 4 ((a - 0x800000000000) / 2 ^ 44))).val
  else
    let e : Die := Fin.ofNat 4 ((a - 0xC00000000000) / 2 ^ 44)
    if e ≠ d ∧ !s.dies[d].linkUp[linkTo d e] then s.loc 0 d.val 7 (linkTo d e).val else s.loc 0 e.val 8 0

/-- The location code of a failed access: the memory place of unreadable data, the link that is down; a free one for the
other failures, whose place the spec does not state (assumption log 7). -/
def State.failLoc (s : State) (fn : Fn) (tw : Bool) (f : MemFail) : Word × State :=
  if f.status = stMemUe then
    match s.routeFn fn tw f.addr with
    | .ok (.die e o) => (s.locMem e.val o, s)
    | _ => s.freeLoc
  else if f.status = stLinkDown then
    match fn with
    | .die d => (linkLoc s d f.addr, s)
    | .pf => (0, s)
  else s.freeLoc

/-- A failed access is logged on the die that detects it (R149, R150): unreadable data of another die on that die, with the
peer as requester; every other failure on the requesting die. An uncorrectable error is reported to the Prilliner. Answers the
location code. -/
def State.raiseMem (s : State) (fn : Fn) (tw : Bool) (who : Requester) (isWrite : Bool) (f : MemFail) : Word × State :=
  let (loc, s) := s.failLoc fn tw f
  match fn with
  | .die d =>
    match s.routeFn fn tw f.addr with
    | .ok (.die e o) =>
      let s := if e = d then s.logMemError d f.kind f.addr loc who isWrite else s.logMemError e f.kind o loc .peer isWrite
      (loc, if f.kind = 1 then s.reportUe e loc else s)
    | _ => (loc, s.logMemError d f.kind f.addr loc who isWrite)
  | .pf => (loc, s)

end Sys2Proof.Machine
end

