-- ==== Sys2Proof/Machine/Operands.lean ====
section
/-!
DEFINITION. Operand forms: the CRCs of frames, slots and the configuration digest; the common command header; raster gates;
tensor descriptors with their element and scale addresses; location of pair-frame fields.
-/
namespace Sys2Proof.Machine

open Sys2Proof

/-! ### CRCs -/

/-- One bit of CRC-8, polynomial 0x07 (R70). -/
def crc8Bit (c : Byte) : Byte := if c.getLsbD 7 then (c <<< 1) ^^^ 0x07#8 else c <<< 1

/-- One byte of CRC-8, most significant bit first (R70). -/
def crc8Byte (c b : Byte) : Byte :=
  crc8Bit (crc8Bit (crc8Bit (crc8Bit (crc8Bit (crc8Bit (crc8Bit (crc8Bit (c ^^^ b))))))))

/-- CRC-8 of bytes in wire order from an initial value (R70, R71). -/
def crc8 (init : Byte) (bs : List Byte) : Byte := bs.foldl crc8Byte init

/-- One bit of the reflected CRC-32, polynomial 0x04C1_1DB7 (R134). -/
def crc32Bit (c : Word) : Word := if c.getLsbD 0 then (c >>> 1) ^^^ 0xEDB88320#32 else c >>> 1

/-- One byte of the reflected CRC-32. -/
def crc32Byte (c : Word) (b : Byte) : Word :=
  crc32Bit (crc32Bit (crc32Bit (crc32Bit (crc32Bit (crc32Bit (crc32Bit (crc32Bit (c ^^^ b.setWidth 32))))))))

/-- The CRC-32 of a Tidemark slot, a pair frame and a mode area (R134). -/
def crc32 (bs : List Byte) : Word := bs.foldl crc32Byte 0xFFFFFFFF#32 ^^^ 0xFFFFFFFF#32

/-- One bit of CRC-64, polynomial ECMA-182 (R91). -/
def crc64Bit (c : DWord) : DWord := if c.getLsbD 63 then (c <<< 1) ^^^ 0x42F0E1EBA9EA3693#64 else c <<< 1

/-- One byte of CRC-64. -/
def crc64Byte (c : DWord) (b : Byte) : DWord :=
  crc64Bit (crc64Bit (crc64Bit (crc64Bit (crc64Bit (crc64Bit (crc64Bit (crc64Bit
    (c ^^^ (b.setWidth 64 <<< 56)))))))))

/-- CRC-64 with initial value zero (R91). -/
def crc64 (bs : List Byte) : DWord := bs.foldl crc64Byte 0

/-! ### The common header (R170, R171) -/

/-- The 16-byte header of a command. -/
structure Header where
  opcode : Nat
  cpl : Bool
  irq : Bool
  listEnd : Bool
  overlap : Bool
  checkpoint : Bool
  nbValid : Bool
  dueValid : Bool
  round : Nat
  chain : Nat
  waitObj : Nat
  signalObj : Nat
  bit39 : Bool
  waitValue : Nat
  signalValue : Nat
  notBefore : Nat
  dueBy : Nat
  deriving DecidableEq, Repr

/-- Bits hi..lo of a natural number. -/
def nbits (v hi lo : Nat) : Nat := v / 2 ^ lo % 2 ^ (hi + 1 - lo)

/-- The header of a command's bytes (R170). -/
def header (bs : List Byte) : Header :=
  let v := leAt bs 0 16
  { opcode := nbits v 7 0, cpl := v.testBit 8, irq := v.testBit 9, listEnd := v.testBit 10, overlap := v.testBit 11,
    checkpoint := v.testBit 12, nbValid := v.testBit 13, dueValid := v.testBit 14, round := nbits v 15 15,
    chain := nbits v 20 16, waitObj := nbits v 29 21, signalObj := nbits v 38 30, bit39 := v.testBit 39,
    waitValue := nbits v 55 40, signalValue := nbits v 71 56, notBefore := nbits v 99 72, dueBy := nbits v 127 100 }

/-- The engine of die queue q (R162). -/
def engineOf (q : QIdx) : Engine := if q.val < 16 then .compute else if q.val < 24 then .copy else .page

/-- The engine that owns an opcode, none for a code outside the table; NOP belongs to all (R162). -/
def opcodeEngine (op : Nat) : Option (Option Engine) :=
  if op = 0x00 then some none
  else if 0x10 ≤ op ∧ op ≤ 0x16 then some (some .compute)
  else if 0x20 ≤ op ∧ op ≤ 0x23 then some (some .copy)
  else if 0x30 ≤ op ∧ op ≤ 0x37 then some (some .page)
  else if 0x40 ≤ op ∧ op ≤ 0x44 then some (some .panel)
  else none

/-- Status codes of R184 that headers, bodies and descriptors give. -/
abbrev stBadOpcode : Nat := 0x101
abbrev stBadHeader : Nat := 0x102
abbrev stBadBody : Nat := 0x103
abbrev stBadDesc : Nat := 0x104
abbrev stShape : Nat := 0x105
abbrev stBadAlign : Nat := 0x106
abbrev stTwinOperand : Nat := 0x107
abbrev stNotSupported : Nat := 0x108

/-- The status of a header on a queue of engine e (R171). Chains are allowed on GEMM, CONV3D, ATTEND, ATTEND_BWD and ELTWISE,
a round bit on GEMM, CONV3D and ELTWISE (R237, R239, R262, R287, R290). -/
def headerStatus (e : Engine) (h : Header) : Nat :=
  match opcodeEngine h.opcode with
  | none => stBadOpcode
  | some owner =>
    if owner ≠ none ∧ owner ≠ some e then stBadOpcode
    else if h.bit39 then stBadHeader
    else if (320 ≤ h.waitObj ∧ h.waitObj ≤ 510) ∨ (320 ≤ h.signalObj ∧ h.signalObj ≤ 510) then stBadHeader
    else if (h.waitObj = 511 ∧ h.waitValue ≠ 0) ∨ (h.signalObj = 511 ∧ h.signalValue ≠ 0) then stBadHeader
    else if (!h.nbValid ∧ h.notBefore ≠ 0) ∨ (!h.dueValid ∧ h.dueBy ≠ 0) then stBadHeader
    else if h.chain ≠ 0 ∧ ¬(h.opcode ∈ [0x10, 0x11, 0x12, 0x13, 0x15]) then stBadHeader
    else if h.round ≠ 0 ∧ ¬(h.opcode ∈ [0x10, 0x11, 0x15]) then stBadHeader
    else stOk

/-! ### Raster gates (R173) -/

/-- A 28-bit gate decoded against the frame fc of the counter: the frame congruent modulo 1,024 in fc - 512 .. fc + 511; one
that would be negative is taken as 0:0.0, before every other time (assumption log 13). -/
def decodeGate (g fc : Nat) : DWord :=
  let m := nbits g 27 18
  let l := nbits g 17 6
  let s := nbits g 5 0 * 64
  let f := fc + 512 + (m + 2048 - (fc + 512) % 1024) % 1024
  -- f is the frame congruent to m in fc + 512 .. fc + 1535; one period lower lies in the window
  if f < 1024 then 0 else mkStamp (f - 1024) l s

/-! ### Tensor descriptors (R176, R177) -/

/-- Element bits of a format code (R177). -/
def formatBits (f : Nat) : Nat :=
  match f with
  | 0x01 => 32 | 0x02 => 16 | 0x03 => 16 | 0x04 => 8 | 0x05 => 8 | 0x06 => 4 | 0x07 => 8 | 0x08 => 4
  | 0x09 => 32 | 0x0A => 8 | 0x0B => 16 | 0x0C => 32 | 0x0D => 8 | 0x0E => 2 | 0x0F => 4 | _ => 0

/-- The fields of a descriptor's 64 bytes (R176). -/
def readDesc (bs : List Byte) : Desc :=
  { base := leAt bs 0 8, format := byteAt bs 8, rank := byteAt bs 9, mx := (byteAt bs 10).testBit 0,
    scaleDim := byteAt bs 11,
    dims := Vector.ofFn fun i : Fin 5 => leAt bs (12 + 4 * i.val) 4,
    strides := Vector.ofFn fun i : Fin 5 => if i.val = 0 then 0 else leAt bs (32 + 5 * (i.val - 1)) 5,
    scaleBase := leAt bs 52 6 }

/-- A descriptor's bytes pass R177. -/
def descValid (bs : List Byte) : Bool :=
  let d := readDesc bs
  decide (d.base < 2 ^ 48) && decide (byteAt bs 10 ≤ 1) && decide (leAt bs 58 6 = 0)
    && decide (1 ≤ d.format) && decide (d.format ≤ 0x0F) && decide (1 ≤ d.rank) && decide (d.rank ≤ 5)
    && (List.finRange 5).all (fun i => if i.val < d.rank then d.dims[i] ≠ 0 else d.dims[i] = 0 ∧ d.strides[i] = 0)
    && (!d.mx || decide (d.format ∈ [0x04, 0x05, 0x06, 0x07]))
    && (if d.mx then decide (d.scaleDim < d.rank) else decide (d.scaleDim = 0))
    && decide (d.dims[0] * formatBits d.format % 8 = 0)

/-- Bit offset of element i0 within its byte, and its address (R177). -/
def Desc.addr (d : Desc) (ix : List Nat) : Nat :=
  d.base + ix.headD 0 * formatBits d.format / 8
    + ((List.finRange 5).foldl (fun acc i => if i.val = 0 then acc else acc + ix.getD i.val 0 * d.strides[i]) 0)

/-- The bit of the byte at which the element starts (R177). -/
def Desc.bitOf (d : Desc) (ix : List Nat) : Nat := ix.headD 0 * formatBits d.format % 8

/-- Number of elements. -/
def Desc.count (d : Desc) : Nat :=
  (List.finRange 5).foldl (fun acc i => if i.val < d.rank then acc * d.dims[i] else acc) 1

/-- Dimensions of the scale tensor: scale_dim reduced to ⌈dim / 32⌉ (R177). -/
def Desc.scaleDimOf (d : Desc) (i : Fin 5) : Nat :=
  if i.val ≥ d.rank then 1 else if i.val = d.scaleDim then ceilDiv d.dims[i] 32 else d.dims[i]

/-- Address of the scale of the block that holds element ix (R177). -/
def Desc.scaleAddr (d : Desc) (ix : List Nat) : Nat :=
  d.scaleBase + ((List.finRange 5).foldr (fun i acc =>
    (if i.val = d.scaleDim then ix.getD i.val 0 / 32 else ix.getD i.val 0) + acc * d.scaleDimOf i) 0)

/-- Number of scales. -/
def Desc.scaleCount (d : Desc) : Nat := (List.finRange 5).foldl (fun acc i => acc * d.scaleDimOf i) 1

/-- First byte after the elements (R180): the address of the last element's byte plus one. -/
def Desc.extentEnd (d : Desc) : Nat :=
  d.base + ceilDiv (d.dims[0] * formatBits d.format) 8
    + ((List.finRange 5).foldl (fun acc i => if i.val = 0 ∨ i.val ≥ d.rank then acc
        else acc + (d.dims[i] - 1) * d.strides[i]) 0)

/-- Some byte of the operand or of its scale tensor lies in a twin window (R180). -/
def Desc.touchesTwin (d : Desc) : Bool :=
  decide (0xC00000000000 < d.extentEnd) || (d.mx && decide (0xC00000000000 < d.scaleBase + d.scaleCount))

/-- The index list of the n-th element in dimension order (innermost first). -/
def unrank (dims : List Nat) (n : Nat) : List Nat :=
  match dims with
  | [] => []
  | d :: ds => (n % d) :: unrank ds (n / d)

/-- The dimensions below rank. -/
def Desc.shape (d : Desc) : List Nat := ((List.finRange 5).filter (fun i => i.val < d.rank)).map (fun i => d.dims[i])

end Sys2Proof.Machine
end

