-- ==== Sys2Proof/Machine/Numeric.lean ====
section
/-!
DEFINITION. Exact arithmetic of the arrays and vector units: values as dyadic numbers, rne32, element encodings (R225), the
conversion stage (R258), MX blocks (R226, R259), and the vector functions (R249, R276, R279).
-/
namespace Sys2Proof.Machine

open Sys2Proof

/-- An exact value: a number (-1)^neg × m × 2^e, an infinity or NaN. Zero keeps its sign. -/
inductive Val where
  | nan
  | inf (neg : Bool)
  | fin (neg : Bool) (m : Nat) (e : Int)
  deriving DecidableEq, Repr

def Val.zero : Val := .fin false 0 0
def Val.one : Val := .fin false 1 0

/-- The value of an integer. -/
def Val.ofInt (i : Int) : Val := .fin (decide (i < 0)) i.natAbs 0

/-- The opposite value; NaN has no sign. -/
def Val.opp : Val → Val
  | .nan => .nan
  | .inf n => .inf (!n)
  | .fin n m e => .fin (!n) m e

/-- The exact product (R229). -/
def Val.mul : Val → Val → Val
  | .nan, _ => .nan
  | _, .nan => .nan
  | .inf a, .inf b => .inf (a != b)
  | .inf a, .fin b m _ => if m = 0 then .nan else .inf (a != b)
  | .fin a m _, .inf b => if m = 0 then .nan else .inf (a != b)
  | .fin a m e, .fin b n f => .fin (a != b) (m * n) (e + f)

/-- The signed mantissa at a smaller exponent. -/
def signedAt (neg : Bool) (m : Nat) (e lo : Int) : Int :=
  let v : Int := ((m * 2 ^ (e - lo).toNat : Nat) : Int)
  if neg then -v else v

/-- The exact sum; an exact zero is +0 unless both addends are -0 (R229). -/
def Val.add : Val → Val → Val
  | .nan, _ => .nan
  | _, .nan => .nan
  | .inf a, .inf b => if a = b then .inf a else .nan
  | .inf a, .fin _ _ _ => .inf a
  | .fin _ _ _, .inf b => .inf b
  | .fin a m e, .fin b n f =>
    let lo := min e f
    let v := signedAt a m e lo + signedAt b n f lo
    if v = 0 then .fin (a && b && decide (m = 0) && decide (n = 0)) 0 0
    else .fin (decide (v < 0)) v.natAbs lo

/-- The exact difference. -/
def Val.sub (a b : Val) : Val := a.add b.opp

/-- The value times 2^k. -/
def Val.scale (v : Val) (k : Int) : Val :=
  match v with
  | .fin n m e => .fin n m (e + k)
  | x => x

/-- NaN or an infinity. -/
def Val.nonFinite : Val → Bool
  | .fin _ _ _ => false
  | _ => true

def Val.isNan : Val → Bool
  | .nan => true
  | _ => false

/-- Zero of either sign. -/
def Val.isZero : Val → Bool
  | .fin _ m _ => decide (m = 0)
  | _ => false

def Val.isNeg : Val → Bool
  | .nan => false
  | .inf n => n
  | .fin n _ _ => n

/-- a < b for values that are not NaN; -0 equals +0. -/
def Val.lt : Val → Val → Bool
  | .nan, _ => false
  | _, .nan => false
  | .inf a, .inf b => a && !b
  | .inf a, .fin _ _ _ => a
  | .fin _ _ _, .inf b => !b
  | .fin a m e, .fin b n f => decide (signedAt a m e (min e f) < signedAt b n f (min e f))

/-- The larger of two values; NaN if either is (R278). -/
def Val.max (a b : Val) : Val :=
  match a, b with
  | .nan, _ => .nan
  | _, .nan => .nan
  | a, b => if a.lt b then b else a

/-- The absolute value. -/
def Val.abs : Val → Val
  | .nan => .nan
  | .inf _ => .inf false
  | .fin _ m e => .fin false m e

/-! ### Rounding -/

/-- m × 2^(-r) rounded to an integer: rnd 0 to nearest even, 1 toward zero (R258). -/
def roundShift (rnd m r : Nat) : Nat :=
  let q := m / 2 ^ r
  let rem := m % 2 ^ r
  if rnd = 1 then q
  else if 2 ^ r < 2 * rem ∨ (2 * rem = 2 ^ r ∧ r ≠ 0 ∧ q % 2 = 1) then q + 1 else q

/-- m × 2^e rounded to a multiple of 2^q: how many. -/
def roundAt (rnd m : Nat) (e q : Int) : Nat :=
  if q ≤ e then m * 2 ^ (e - q).toNat else roundShift rnd m (q - e).toNat

/-- A binary float format: exponent and mantissa bits, bias, and the codes of its largest finite value, infinity and NaN
(R225, R258). -/
structure FloatFmt where
  ebits : Nat
  mbits : Nat
  bias : Nat
  maxCode : Nat
  infCode : Nat
  nanCode : Nat
  deriving DecidableEq, Repr

/-- The float format of a format code; FP8_E4M3 has no infinity and FP4_E2M1 neither infinity nor NaN (R225). -/
def floatFmt (f : Nat) : Option FloatFmt :=
  match f with
  | 0x01 => some { ebits := 8, mbits := 23, bias := 127, maxCode := 0x7F7FFFFF, infCode := 0x7F800000, nanCode := 0x7FC00000 }
  | 0x02 => some { ebits := 8, mbits := 7, bias := 127, maxCode := 0x7F7F, infCode := 0x7F80, nanCode := 0x7FC0 }
  | 0x03 => some { ebits := 5, mbits := 10, bias := 15, maxCode := 0x7BFF, infCode := 0x7C00, nanCode := 0x7E00 }
  | 0x04 => some { ebits := 4, mbits := 3, bias := 7, maxCode := 0x7E, infCode := 0x7F, nanCode := 0x7F }
  | 0x05 => some { ebits := 5, mbits := 2, bias := 15, maxCode := 0x7B, infCode := 0x7C, nanCode := 0x7F }
  | 0x06 => some { ebits := 2, mbits := 1, bias := 1, maxCode := 0x7, infCode := 0x7, nanCode := 0x0 }
  | _ => none

/-- Bits of a float format. -/
def FloatFmt.width (p : FloatFmt) : Nat := 1 + p.ebits + p.mbits

/-- The magnitude code of m × 2^e rounded, with an unbounded exponent field (R258). -/
def FloatFmt.magnitude (p : FloatFmt) (rnd m : Nat) (e : Int) : Nat :=
  if m = 0 then 0
  else
    let sub : Int := 1 - (p.bias : Int) - p.mbits
    let q := max sub (e + Nat.log2 m - p.mbits)
    let n := roundAt rnd m e q
    -- n is below 2^(mbits + 1), or equal to it after rounding up
    (q - sub).toNat * 2 ^ p.mbits + n

/-- The value of a code of a float format (R225). -/
def FloatFmt.value (p : FloatFmt) (c : Nat) : Val :=
  let mag := c % 2 ^ (p.width - 1)
  let neg := c.testBit (p.width - 1)
  let sub : Int := 1 - (p.bias : Int) - p.mbits
  if p.maxCode < mag then
    (if mag = p.infCode ∧ p.infCode ≠ p.nanCode then .inf neg else .nan)
  else
    let ef := mag / 2 ^ p.mbits
    let mf := mag % 2 ^ p.mbits
    if ef = 0 then .fin neg mf sub else .fin neg (2 ^ p.mbits + mf) (sub + (ef - 1 : Nat))

/-- A code with the sign bit set for a negative value. -/
def FloatFmt.signed (p : FloatFmt) (neg : Bool) (mag : Nat) : Nat := if neg then mag + 2 ^ (p.width - 1) else mag

/-- Conversion to a float format (R258). -/
def FloatFmt.convert (p : FloatFmt) (rnd sat : Nat) : Val → Nat
  | .nan => p.nanCode
  | .inf n =>
    if p.ebits = 2 ∨ sat = 0 then p.signed n p.maxCode
    else if p.infCode = p.nanCode then p.nanCode else p.signed n p.infCode
  | .fin n m e =>
    let c := p.magnitude rnd m e
    if c ≤ p.maxCode then p.signed n c
    else if p.ebits = 2 ∨ rnd = 1 ∨ sat = 0 then p.signed n p.maxCode
    else if p.infCode = p.nanCode then p.nanCode else p.signed n p.infCode

/-- The FP32 format. -/
def fp32 : FloatFmt :=
  { ebits := 8, mbits := 23, bias := 127, maxCode := 0x7F7FFFFF, infCode := 0x7F800000, nanCode := 0x7FC00000 }

/-- Rounding to binary32, to nearest even, with gradual underflow and overflow to infinity (R227). -/
def rne32 (v : Val) : Val := fp32.value (fp32.convert 0 1 v)

/-- The FP32 code of a value. -/
def toFp32 (v : Val) : Nat := fp32.convert 0 1 v
/-- The value of an FP32 code. -/
def ofFp32 (c : Nat) : Val := fp32.value c

/-- The rounded FP32 operations of the stage pseudocode. -/
def fadd (a b : Val) : Val := rne32 (a.add b)
def fsub (a b : Val) : Val := rne32 (a.sub b)
def fmul (a b : Val) : Val := rne32 (a.mul b)

/-! ### Element codes (R177, R225) -/

/-- An integer format: bits and whether it is signed. -/
def intFmt (f : Nat) : Option (Nat × Bool) :=
  match f with
  | 0x07 => some (8, true) | 0x08 => some (4, true) | 0x09 => some (32, true)
  | 0x0A => some (8, false) | 0x0B => some (16, false) | 0x0C => some (32, false)
  | 0x0E => some (2, false) | 0x0F => some (4, false) | _ => none

/-- The value of an element code; INT8 with mx counts in 2^-6 (R225). -/
def decodeElem (f : Nat) (mx : Bool) (c : Nat) : Val :=
  match floatFmt f with
  | some p => p.value c
  | none =>
    if f = 0x0D then (if c = 0xFF then .nan else .fin false 1 ((c : Int) - 127))
    else match intFmt f with
      | some (n, true) => (Val.ofInt (signedOf n c)).scale (if mx && decide (f = 0x07) then -6 else 0)
      | some (_, false) => Val.ofInt c
      | none => .nan

/-- A finite value rounded to an integer (R258). -/
def roundInt (rnd : Nat) (neg : Bool) (m : Nat) (e : Int) : Int :=
  let n : Int := (roundAt rnd m e 0 : Nat)
  if neg then -n else n

/-- Conversion to an integer of n bits, clamped (R258). -/
def convertInt (n : Nat) (signed : Bool) (rnd : Nat) (v : Val) : Nat :=
  let lo : Int := if signed then -(2 ^ (n - 1) : Nat) else 0
  let hi : Int := if signed then (2 ^ (n - 1) : Nat) - 1 else (2 ^ n : Nat) - 1
  match v with
  | .nan => 0
  | .inf neg => codeOf n (if neg then lo else hi)
  | .fin neg m e => codeOf n (max lo (min hi (roundInt rnd neg m e)))

/-- The conversion stage: the code of a value in a target format under rnd and sat (R258). -/
def convert (f : Nat) (mx : Bool) (rnd sat : Nat) (v : Val) : Nat :=
  match floatFmt f with
  | some p => p.convert rnd sat v
  | none => match intFmt f with
    | some (n, sg) => convertInt n sg rnd (v.scale (if mx && decide (f = 0x07) then 6 else 0))
    | none => 0

/-- The E8M0 factor of a scale byte: 2^(e - 127), NaN for 0xFF (R225, R226). -/
def scaled (c : Nat) (v : Val) : Val := if c = 0xFF then .nan else v.scale ((c : Int) - 127)

/-! ### MX blocks (R259) -/

/-- emax of an element format. -/
def emax (f : Nat) : Int := if f = 0x04 then 8 else if f = 0x05 then 15 else if f = 0x06 then 2 else 0

/-- floor(log2 v) of a positive finite value. -/
def Val.expo : Val → Int
  | .fin _ m e => e + Nat.log2 m
  | _ => 0

/-- The largest absolute value of a list of finite values. -/
def amax (vs : List Val) : Val := vs.foldl (fun a v => if a.lt v.abs then v.abs else a) Val.zero

/-- The scale byte and element codes of an MX block (R259). -/
def mxBlock (f rnd sat : Nat) (vs : List Val) : Nat × List Nat :=
  if vs.any Val.nonFinite then (0xFF, vs.map (fun _ => 0))
  else
    let a := amax vs
    let e : Int := if a.isZero then -127 else max (-127) (min 127 (a.expo - emax f))
    ((e + 127).toNat, vs.map (fun v => convert f true rnd sat (v.scale (-e))))

/-- A list cut into pieces of n; at most as many as its length. -/
def piecesFuel {α : Type} (n : Nat) : Nat → List α → List (List α)
  | 0, _ => []
  | k + 1, xs => if xs.isEmpty then [] else xs.take n :: piecesFuel n k (xs.drop n)

def pieces {α : Type} (n : Nat) (xs : List α) : List (List α) := piecesFuel n xs.length xs

/-- Values quantised as an MX row: each block of 32 gives its scale, and its elements decoded with it. -/
def mxRow (f rnd sat : Nat) (vs : List Val) : List (Nat × List Nat) := (pieces 32 vs).map (mxBlock f rnd sat)

/-! ### Vector functions (R249) -/

/-- 1 / x rounded; the quotient carries a sticky last bit. -/
def rcp32 : Val → Val
  | .nan => .nan
  | .inf n => .fin n 0 0
  | .fin n m e =>
    if m = 0 then .inf n
    else
      let k := Nat.log2 m + 64
      let q := 2 ^ k / m
      let st := if 2 ^ k % m = 0 then 0 else 1
      rne32 (.fin n (2 * q + st) (-(k : Int) - 1 - e))

/-- Integer square root, bit by bit. -/
def isqrtFuel : Nat → Nat → Nat → Nat
  | 0, _, r => r
  | k + 1, v, r => let t := r + 2 ^ k; isqrtFuel k v (if t * t ≤ v then t else r)

/-- The IEEE square root (R249). -/
def sqrt32 : Val → Val
  | .nan => .nan
  | .inf n => if n then .nan else .inf false
  | .fin n m e =>
    if m = 0 then .fin n 0 0
    else if n then .nan
    else
      let odd : Nat := if e % 2 = 0 then 0 else 1
      let v := m * 2 ^ (128 + odd)
      let f := (e - odd) / 2
      let r := isqrtFuel (Nat.log2 v / 2 + 1) v 0
      rne32 (.fin false (2 * r + (if r * r = v then 0 else 1)) (f - 64 - 1))

/-- Fixed-point working precision of the transcendental functions, in bits. -/
abbrev prec : Nat := 420

/-- Σ (±1)^k (1/x)^(2k+1) / (2k+1) to n terms in fixed point: atan(1/x) (alternating) or atanh(1/x). -/
def atanRecip (alternating : Bool) (x : Nat) : Nat → Nat → Nat → Int → Int
  | 0, _, _, acc => acc
  | n + 1, k, pow, acc =>
    let t : Int := (pow / (2 * k + 1) : Nat)
    atanRecip alternating x n (k + 1) (pow / (x * x)) (if alternating && k % 2 == 1 then acc - t else acc + t)

/-- ln 2 = 2 atanh(1/3), π = 16 atan(1/5) - 4 atan(1/239), in units of 2^-prec. -/
def ln2Fix : Nat := (2 * atanRecip false 3 140 0 (2 ^ prec / 3) 0).toNat
def piFix : Nat := (16 * atanRecip true 5 100 0 (2 ^ prec / 5) 0 - 4 * atanRecip true 239 30 0 (2 ^ prec / 239) 0).toNat

/-- Σ t^k / k! for t in fixed point, n terms from term number k. -/
def expSeries (t : Nat) : Nat → Nat → Nat → Nat → Nat
  | 0, _, _, acc => acc
  | n + 1, k, term, acc => expSeries t n (k + 1) (term * t / 2 ^ prec / (k + 1)) (acc + term)

/-- 2^x rounded (R249). Only an integer x gives an exact result. -/
def exp2At : Val → Val
  | .nan => .nan
  | .inf n => if n then Val.zero else .inf false
  | .fin n m e =>
    let x : Val := .fin n m e
    if m = 0 then Val.one
    else if Val.lt (.fin false 200 0) x.abs then (if n then Val.zero else .inf false)
    else
      -- x = i + f with 0 ≤ f < 1, f exact in units of 2^-prec
      let fix : Int := signedAt n m (e + prec) 0
      let fix := if (e + prec) < 0 then 0 else fix
      let i := fix / (2 ^ prec : Nat)
      let f := (fix % (2 ^ prec : Nat)).toNat
      if f = 0 then rne32 (.fin false 1 i)
      else rne32 (.fin false (2 * expSeries (f * ln2Fix / 2 ^ prec) 90 0 (2 ^ prec) 0 + 1) (i - prec - 1))

def exp2_32 (x : Val) : Val := exp2At x

/-- ln of f = num / den in [1, 2) by 2 atanh((f - 1) / (f + 1)) in fixed point. -/
def lnSeries (z2 : Nat) : Nat → Nat → Nat → Nat → Nat
  | 0, _, _, acc => acc
  | n + 1, k, pow, acc => lnSeries z2 n (k + 1) (pow * z2 / 2 ^ prec) (acc + pow / (2 * k + 1))

/-- The base-2 logarithm rounded (R279). -/
def log2_32 : Val → Val
  | .nan => .nan
  | .inf n => if n then .nan else .inf false
  | .fin n m e =>
    if m = 0 then .inf true
    else if n then .nan
    else
      let k := Nat.log2 m
      let i : Int := e + k
      if m = 2 ^ k then rne32 (Val.ofInt i)
      else
        let z := (m - 2 ^ k) * 2 ^ prec / (m + 2 ^ k)
        let ln := 2 * lnSeries (z * z / 2 ^ prec) 140 0 z 0
        let frac := ln * 2 ^ prec / ln2Fix
        let v : Int := i * (2 ^ prec : Nat) + frac
        rne32 (.fin (decide (v < 0)) (2 * v.natAbs + 1) (-(prec : Int) - 1))

/-- Σ of the sine or cosine series: terms t^j / j! with alternating signs, every second j. -/
def trigSeries (t2 : Nat) : Nat → Nat → Nat → Bool → Int → Int
  | 0, _, _, _, acc => acc
  | n + 1, j, term, neg, acc =>
    trigSeries t2 n (j + 2) (term * t2 / 2 ^ prec / ((j + 1) * (j + 2))) (!neg) (if neg then acc - term else acc + term)

/-- The sine (or cosine) of a finite value in fixed point: reduced by π/2, then by the series. -/
def trigFix (cosine : Bool) (n : Bool) (m : Nat) (e : Int) : Int :=
  let th := if (e + prec) < 0 then m / 2 ^ (-(e + prec)).toNat else m * 2 ^ (e + prec).toNat
  let half := piFix / 2
  let quad := (th / half + (if cosine then 1 else 0)) % 4
  let r := th % half
  let t2 := r * r / 2 ^ prec
  let v := if quad % 2 = 0 then trigSeries t2 60 1 r false 0 else trigSeries t2 60 0 (2 ^ prec) false 0
  let v := if 2 ≤ quad then -v else v
  if n && !cosine then -v else v

/-- sin and cos rounded (R276); a non-finite argument gives NaN. -/
def trig32 (cosine : Bool) : Val → Val
  | .fin n m e =>
    if m = 0 then (if cosine then Val.one else .fin n 0 0)
    else if !cosine && Val.lt (Val.abs (.fin n m e)) (.fin false 1 (-64)) then rne32 (.fin n m e)
    else
      let v := trigFix cosine n m e
      rne32 (.fin (decide (v < 0)) (2 * v.natAbs + 1) (-(prec : Int) - 1))
  | _ => .nan

def sin32 (x : Val) : Val := trig32 false x
def cos32 (x : Val) : Val := trig32 true x

/-- The constants of R249. -/
def cL : Val := ofFp32 0x3FB8AA3B
def c2L : Val := ofFp32 0x4038AA3B
def cC1 : Val := ofFp32 0x3F4C422A
def cC2 : Val := ofFp32 0x3D372713

def silu (x : Val) : Val := fmul x (rcp32 (fadd Val.one (exp2_32 (rne32 (x.mul cL)).opp)))

def gelu (x : Val) : Val :=
  let u := fmul cC1 (fadd x (fmul cC2 (fmul (fmul x x) x)))
  let t := exp2_32 (fmul u c2L)
  let th := fsub Val.one (fmul (.fin false 2 0) (rcp32 (fadd t Val.one)))
  fmul (fmul (.fin false 1 (-1)) x) (fadd Val.one th)

/-! ### Trees (R234, R256) -/

/-- One level of a tree: entries 2i and 2i + 1 merge. -/
def treeLevel {α : Type} (f : α → α → α) : List α → List α
  | a :: b :: rest => f a b :: treeLevel f rest
  | xs => xs

/-- Levels until one entry is left. -/
def treeFuel {α : Type} (f : α → α → α) : Nat → List α → List α
  | 0, xs => xs
  | k + 1, xs => treeFuel f k (treeLevel f xs)

/-- A tree over a list padded with empty entries to 2^k (R256). -/
def tree {α : Type} (f : α → α → α) (empty : α) (k : Nat) (xs : List α) : α :=
  (treeFuel f k (xs ++ List.replicate (2 ^ k - xs.length) empty)).headD empty

/-- The number of levels of a tree over n entries. -/
def levels (n : Nat) : Nat := if n ≤ 1 then 0 else Nat.log2 (n - 1) + 1

/-- The tree over segments of 64, then over the segments (R256). -/
def segTree {α : Type} (f : α → α → α) (empty : α) (xs : List α) : α :=
  let segs := (pieces 64 xs).map (tree f empty 6)
  tree f empty (levels segs.length) segs

/-- The ROWSUM of values (R256). -/
def rowSum (xs : List Val) : Val := segTree fadd Val.zero xs

/-- A statistics record: n, mean, m2, ss (R255). -/
structure Stat where
  n : Val
  mean : Val
  m2 : Val
  ss : Val
  deriving DecidableEq, Repr

def Stat.empty : Stat := { n := Val.zero, mean := Val.zero, m2 := Val.zero, ss := Val.zero }

/-- The leaf of a single value (R255). -/
def Stat.leaf (x : Val) : Stat := { n := Val.one, mean := x, m2 := Val.zero, ss := fmul x x }

/-- The merge of two records (R255). -/
def Stat.merge (a b : Stat) : Stat :=
  if a.n.isZero then b
  else if b.n.isZero then a
  else
    let n := fadd a.n b.n
    let d := fsub b.mean a.mean
    let w := fmul b.n (rcp32 n)
    let q := fmul (fmul a.n w) d
    { n := n, mean := fadd a.mean (fmul d w), m2 := fadd (fadd a.m2 b.m2) (fmul q d), ss := fadd a.ss b.ss }

/-- The record of a row of values (R256). -/
def statOf (xs : List Val) : Stat := segTree Stat.merge Stat.empty (xs.map Stat.leaf)

/-- The record merged from parts (R256). -/
def statParts (ps : List Stat) : Stat := tree Stat.merge Stat.empty (levels ps.length) ps

/-- The record's four values in field order. -/
def Stat.fields (r : Stat) : List Val := [r.n, r.mean, r.m2, r.ss]

/-- The class of a row's four values (R254): the largest wins, NaN ranks below every number, ties go to the lowest index. -/
def classify (vs : List Val) : Nat :=
  (vs.zipIdx.foldl (fun (best : Option (Val × Nat)) (p : Val × Nat) =>
    if p.1.isNan then best
    else match best with
      | some (b, i) => if b.lt p.1 then some p else some (b, i)
      | none => some p) none).elim 0 (·.2)

end Sys2Proof.Machine
end

