-- ==== Sys2Proof/Machine/Queues.lean ====
section
/-!
DEFINITION. Operations shared by every command queue: the life of a command up to step 4, WAITs and raster gates, sync objects
and waiters, the URGENT slot, Weir's choice, and what ends, cuts or halts a command (R162-R216).
-/
namespace Sys2Proof.Machine

open Sys2Proof

/-! ### Queues of a function -/

/-- PANEL queue number of a queue operand. -/
def pfIdx (q : QIdx) : Fin 4 := Fin.ofNat 4 q.val

/-- Queue q of a function. -/
def State.queue (s : State) (fn : Fn) (q : QIdx) : Queue :=
  match fn with
  | .die d => s.dies[d].queues[q]
  | .pf => s.pf.queues[pfIdx q]

/-- The state with queue q of a function changed. -/
def State.modQueue (s : State) (fn : Fn) (q : QIdx) (f : Queue → Queue) : State :=
  match fn with
  | .die d => s.modDie d (fun x => { x with queues := x.queues.set q (f x.queues[q]) })
  | .pf => { s with pf := { s.pf with queues := s.pf.queues.set (pfIdx q) (f s.pf.queues[pfIdx q]) } }

/-- The engine of a queue (R162, R346). -/
def fnEngine (fn : Fn) (q : QIdx) : Engine := match fn with | .die _ => engineOf q | .pf => .panel

/-- First queue of an engine, and how many it has (R162). -/
def engineBase : Engine → Nat
  | .compute => 0 | .copy => 16 | .page => 24 | .panel => 0
def engineSize : Engine → Nat
  | .compute => 16 | .copy => 8 | .page => 8 | .panel => 4

/-- The engine's place in a die's table of engines. -/
def engineIdx : Engine → Fin 3
  | .compute => 0 | .copy => 1 | .page => 2 | .panel => 0

/-- The requester that an access of a queue's command names (MEM_ERR_INFO). -/
def queueRequester (fn : Fn) (q : QIdx) : Requester := .engine (fnEngine fn q) (q.val - engineBase (fnEngine fn q))

/-- Twin windows are reached by COPY and PAGE engines only (R140). -/
def twinAllowed (fn : Fn) (q : QIdx) : Bool :=
  match fnEngine fn q with | .copy => true | .page => true | _ => false

/-- The die executes commands: Noon, and no transition under way (R36, R104). -/
def State.dieRuns (s : State) (d : Die) : Bool := decide (s.dies[d].power = 0) && s.dies[d].moving.isNone

/-- The Prilliner is able to work: READY or SAFE, not stopped, and its cores not held in reset by a level-3 cause (R395, R432). -/
def State.prilRuns (s : State) : Bool := decide (2 ≤ s.fld R.MG_STATE 2 0) && !s.pwr.stopped && decide (s.saf.restart = 0)

/-- The function executes commands. -/
def State.fnRuns (s : State) : Fn → Bool
  | .die d => s.dieRuns d
  | .pf => s.prilRuns

/-- A command is in execution: step 5 has begun and its record is not yet written (R187, R188). -/
def Live.inExec (l : Live) : Bool :=
  match l.phase with
  | .running | .preempted | .ended => true
  | _ => false

/-- The command has issued its last step, so an OVERLAP successor may start (R168); a PANEL command once its slot has begun its
first frame (R346). -/
def Live.issued (fn : Fn) (l : Live) : Bool :=
  decide (l.status = stOk) &&
    (decide (l.phase = .ended) || (decide (fn = .pf) && decide (l.phase = .running) && decide (0 < l.frames)))

/-! ### Raster counters -/

/-- The raster counter of die d now: between pulses the fraction advances and saturates (R57). The rule states the saturation for
LOCKED; that it saturates in every state is a DESIGN CHOICE (assumption log 53). -/
def State.dieRaster (s : State) (d : Die) : DWord :=
  let x := s.dies[d]
  mkStamp (stampFrame x.ras) (stampLine x.ras)
    (min 4095 (stampFrac x.ras + (fineOfTick s.now - x.rasAt) * 4096 / x.rasPer))

/-- The counter a function decodes gates against and writes into records, none while it is invalid (R59, R173, R347). -/
def State.counter (s : State) : Fn → Option DWord
  | .die d => if s.dies[d].rasValid then some (s.dieRaster d) else none
  | .pf => some s.trayRaster

/-! ### Sync objects (R172, R211-R216) -/

/-- Home die of tray-global object g (R211). -/
def homeOf (g : Nat) : Die := Fin.ofNat 4 g

/-- The value of tray-global object g at its home. -/
def State.homed (s : State) (g : Nat) : DWord := s.dies[homeOf g].homed[g / 4]?.getD 0

/-- The value of an object as a function sees it, none where its home die is in Midnight (R213, R214). -/
def State.objSeen (s : State) (fn : Fn) (obj : Nat) : Option DWord :=
  if obj < 256 then
    match fn with
    | .die d => some (s.dies[d].objs[obj]?.getD 0)
    | .pf => none
  else
    let g := obj - 256
    if s.dies[homeOf g].power ≥ 5 then none
    else match fn with
      | .die d => some (if homeOf g = d then s.homed g else SMap.get 0 s.dies[d].seen g)
      | .pf => some (SMap.get 0 s.pf.seen g)

/-- A function reaches the home die of an object (R213, R214): the Prilliner always, a die over its link to it. -/
def State.objLinked (s : State) (fn : Fn) (obj : Nat) : Bool :=
  decide (obj < 256) || (match fn with
    | .die d => decide (homeOf (obj - 256) = d) || s.dies[d].linkUp[linkTo d (homeOf (obj - 256))]
    | .pf => true)

/-- A WAIT for w is satisfied by value v (R172). -/
def waitMet (v : DWord) (w : Nat) : Bool := decide ((v.toNat % 65536 + 65536 - w % 65536) % 65536 < 32768)

/-- Whether a WAIT of a function is satisfied; none where the object's home die is in Midnight. One whose home cannot be reached stays
unsatisfied until the link retrains (R172, R214). -/
def State.waitState (s : State) (fn : Fn) (obj w : Nat) : Option Bool :=
  (s.objSeen fn obj).map (fun v => s.objLinked fn obj && waitMet v w)

/-- The value that a command's SIGNAL of s gives an object at v (R172). -/
def signalTo (v : DWord) (s : Nat) : DWord :=
  let d := (s % 65536 + 65536 - v.toNat % 65536) % 65536
  if 1 ≤ d ∧ d ≤ 32768 ∧ v.toNat + d < 2 ^ 64 then BitVec.ofNat 64 (v.toNat + d) else v

/-! ### Steps 2 and 3 (R174) -/

/-- The command reaches step 3: its gates are decoded against the counter, if it is valid (R173). -/
def Live.enterGate (c : Option DWord) (l : Live) : Live :=
  let h := header l.bytes
  let dec (on : Bool) (g : Nat) : Option DWord :=
    match c with
    | some t => if on then some (decodeGate g (stampFrame t)) else none
    | none => none
  { l with notBefore := dec h.nbValid h.notBefore, dueBy := dec h.dueValid h.dueBy,
           phase := if h.nbValid then .gate else .atDesc }

/-- A command whose turn it is: one that failed step 1 ends, one at step 2 evaluates its WAIT (R172, R174, R214). A WAIT whose limit
has run out waits for WAIT_TIMEOUT (R175). -/
def Live.advance (s : State) (fn : Fn) (timeout : Nat) (l : Live) : Live :=
  if l.phase ≠ .waiting then l
  else if l.status ≠ stOk then { l with phase := .ended }
  else
    let h := header l.bytes
    if h.waitObj = 511 then l.enterGate (s.counter fn)
    else match s.waitState fn h.waitObj h.waitValue with
      | none => { l with phase := .ended, status := stPeerUnavail }
      | some met => if (timeout = 0 ∨ l.marks < timeout) ∧ met then l.enterGate (s.counter fn) else l

/-- The commands of a queue advance in position order; `turn` says that the first of them may (R168). -/
def advanceFrom (s : State) (fn : Fn) (timeout : Nat) : Bool → List Live → List Live
  | _, [] => []
  | turn, l :: ls =>
    let l' := if turn then l.advance s fn timeout else l
    l' :: advanceFrom s fn timeout
      (turn && l'.issued fn && (match ls with | m :: _ => (header m.bytes).overlap | [] => false)) ls

/-- The commands of a queue advance, while it has a record slot free (R168, R181). -/
def Queue.advance (s : State) (fn : Fn) (q : Queue) : Queue :=
  { q with live := advanceFrom s fn q.waitTimeout (!q.full) q.live }

/-- Every waiting command of a function re-evaluates its WAIT (R213). -/
def State.settle (s : State) (fn : Fn) : State :=
  match fn with
  | .die d => s.modDie d (fun x =>
      { x with queues := x.queues.map (Queue.advance s fn) })
  | .pf => { s with pf := { s.pf with queues := s.pf.queues.map (Queue.advance s fn) } }

/-- Every waiting command of the tray re-evaluates its WAIT. -/
def State.settleAll (s : State) : State :=
  ((((s.settle (.die 0)).settle (.die 1)).settle (.die 2)).settle (.die 3)).settle .pf

/-- A command at step 3 passes its NOT_BEFORE gate at a pulse whose line start is at or after it (R203). -/
def Live.passGate (pulse : DWord) (l : Live) : Live :=
  if l.phase ≠ .gate then l
  else
    let h := header l.bytes
    let fc := stampFrame pulse
    let nb := l.notBefore.getD (decodeGate h.notBefore fc)
    let due := if h.dueValid then some (l.dueBy.getD (decodeGate h.dueBy fc)) else none
    let start := mkStamp (stampFrame pulse) (stampLine pulse) 0
    { l with notBefore := some nb, dueBy := due, phase := if nb.toNat ≤ start.toNat then .atDesc else .gate }

/-- A line pulse reaches a function: its gates are evaluated (R203, R206, R347). -/
def State.passGates (s : State) (fn : Fn) (pulse : DWord) : State :=
  match fn with
  | .die d => s.modDie d (fun x =>
      { x with queues := x.queues.map (fun q => { q with live := q.live.map (Live.passGate pulse) }) })
  | .pf => { s with pf := { s.pf with
      queues := s.pf.queues.map (fun q => { q with live := q.live.map (Live.passGate pulse) }) } }

/-- An mt mark: WAIT limits and ages of eligible heads count it (R175, R197). A WAIT that is satisfied when the mark arrives that would
complete its count does not run out. -/
def Live.mark (s : State) (fn : Fn) (timeout : Nat) (l : Live) : Live :=
  match l.phase with
  | .waiting =>
    let h := header l.bytes
    if l.marks + 1 = timeout ∧ (h.waitObj = 511 ∨ s.waitState fn h.waitObj h.waitValue = some true) then l
    else { l with marks := l.marks + 1 }
  | .eligible => { l with ageMarks := l.ageMarks + 1 }
  | _ => l

/-- A mark reaches the commands of a queue. -/
def Queue.mark (s : State) (fn : Fn) (q : Queue) : Queue := { q with live := q.live.map (Live.mark s fn q.waitTimeout) }

/-! ### Signals and waiters -/

/-- The object of a waiter or sync register of die d, none for one that is not reached there (R215, R216). -/
def State.ownObj (s : State) (d : Die) (obj : Nat) : Option DWord :=
  if obj < 256 then some (s.dies[d].objs[obj]?.getD 0)
  else if obj < 320 ∧ homeOf (obj - 256) = d then some (s.homed (obj - 256))
  else none

/-- Waiter w of die d fires if it is armed and satisfied (R216). -/
def State.fireWaiter (s : State) (d : Die) (w : Fin 32) : State :=
  let x := s.dies[d].waiters[w]
  match s.ownObj d x.obj with
  | some v =>
    if x.armed && decide (x.value.toNat ≤ v.toNat) then
      (s.modDie d (fun y => { y with waiters := y.waiters.set w { x with fired := true, armed := false } })).dieMsix d x.vector
    else s
  | none => s

/-- Every waiter of die d is judged (R216). -/
def State.fireWaiters (s : State) (d : Die) : State := (List.finRange 32).foldl (fun s w => s.fireWaiter d w) s

/-- An own object of die d rises to v if v is larger; waiters and WAITs on the die see it (R212, R213). -/
def State.raiseOwn (s : State) (d : Die) (obj : Nat) (v : DWord) : State :=
  match s.ownObj d obj with
  | some old =>
    if old.toNat < v.toNat then
      let s := s.modDie d (fun x =>
        if obj < 256 then { x with objs := x.objs.setIfInBounds obj v }
        else { x with homed := x.homed.setIfInBounds ((obj - 256) / 4) v })
      (s.fireWaiters d).settle (.die d)
    else s
  | none => s

/-- A SIGNAL with low 16 bits sig arrives at an own object of die d (R172, R212). -/
def State.signalOwn (s : State) (d : Die) (obj sig : Nat) : State :=
  match s.ownObj d obj with
  | some old => s.raiseOwn d obj (signalTo old sig)
  | none => s

/-! ### The URGENT slot (R199-R202) -/

/-- The command of a queue that has completed step 4 and may start, with its place in the list (R194). -/
def Queue.eligibleAt (q : Queue) : Option (Nat × Live) :=
  (q.live.zipIdx.find? (fun p => decide (p.1.phase = .eligible))).map (fun p => (p.2, p.1))

/-- A queue whose list is a candidate for the slot: (deadline, doorbell number) (R200). -/
def Queue.candidate (q : Queue) : Option (Option DWord × Nat) :=
  if q.cls = 0 ∧ q.inSlot = false ∧ q.stale = false ∧ q.state = 1 then
    match q.live with
    | l :: _ => if l.phase = .eligible then some (q.listDue, l.bell) else none
    | [] => none
  else none

/-- Every candidate of the tray in order of die and queue. -/
def State.candidates (s : State) : List (Die × QIdx × Option DWord × Nat) :=
  (List.finRange 4).flatMap fun d => (List.finRange 32).filterMap fun q =>
    (s.dies[d].queues[q].candidate).map (fun c => (d, q, c.1, c.2))

/-- Candidate a comes before candidate b: deadlines first, earliest first; then order of doorbells (R200). -/
def candBefore (a b : Option DWord × Nat) : Bool :=
  match a.1, b.1 with
  | some x, some y => decide (x.toNat < y.toNat)
  | some _, none => true
  | none, some _ => false
  | none, none => decide (a.2 < b.2)

/-- The candidate that the free slot goes to; ties go to the lowest die, then the lowest queue. -/
def bestCandidate : List (Die × QIdx × Option DWord × Nat) → Option (Die × QIdx × Option DWord × Nat)
  | [] => none
  | c :: cs => some (cs.foldl (fun b c => if candBefore c.2.2 b.2.2 then c else b) c)

/-- Every candidate whose deadline is the slot's joins it (R200). -/
def State.joinSlot (s : State) : State :=
  match s.slot.due with
  | some due => s.candidates.foldl (fun s c =>
      if c.2.2.1 = some due then s.modQueue (.die c.1) c.2.1 (fun q => { q with inSlot := true }) else s) s
  | none => s

/-- The slot is granted if it is free (SLOT_GRANT), and lists with its deadline join (R200). R200 does not say on which die past_due sets:
the model sets it on the die of the list that gets the slot, judged by that die's raster counter (DESIGN CHOICE, assumption log 58). -/
def State.grantSlot (s : State) : State :=
  if s.slot.held then s.joinSlot
  else match bestCandidate s.candidates with
    | none => s
    | some (d, q, due, _) =>
      let s := { s with slot := { s.slot with held := true, due := due } }
      let s := s.modQueue (.die d) q (fun x => { x with inSlot := true })
      let past := match due, s.counter (.die d) with
        | some t, some now => decide (t.toNat < now.toNat)
        | _, _ => false
      (if past then s.weirAlert d 1 else s).joinSlot

/-- Some list is a member of the slot. -/
def State.slotInUse (s : State) : Bool :=
  (List.finRange 4).any fun d => (List.finRange 32).any fun q => s.dies[d].queues[q].inSlot

/-- The slot is released when no member remains, and granted anew (R201). -/
def State.releaseSlot (s : State) : State :=
  if s.slot.held && !s.slotInUse then
    { s with slot := { s.slot with held := false, due := none } }.grantSlot
  else s

/-- Queue q of die d leaves the slot (R201); its next list joins at once if it is a candidate with the slot's deadline (R200). -/
def State.leaveSlot (s : State) (fn : Fn) (q : QIdx) : State :=
  if (s.queue fn q).inSlot then
    let s := (s.modQueue fn q (fun x => { x with inSlot := false })).releaseSlot
    if s.slot.held then s.joinSlot else s
  else s

/-! ### Regions (R300) -/

/-- A managed region: device address of its first byte, number of 4 KiB units, index of its first unit in the table. -/
structure Region where
  base : Nat
  units : Nat
  first : Nat
  deriving DecidableEq, Repr

/-- Region r of die d: 0 the pool, 1 the tier 1 region, 2 the tier 2 region. -/
def DieSt.region (x : DieSt) (r : Nat) : Region :=
  let n0 := field x.memBlk[9] 10 0 * 512
  let n1 := field x.pageBlk[7] 15 0 * 512
  if r = 0 then { base := field x.memBlk[8] 9 0 * 0x200000, units := n0, first := 0 }
  else if r = 1 then { base := 0x1000000000 + field x.pageBlk[6] 15 0 * 0x200000, units := n1, first := n0 }
  else { base := x.pageBlk[8].toNat + field x.pageBlk[9] 15 0 * 2 ^ 32,
         units := if bitAt x.pageBlk[0] 2 then field x.pageBlk[10] 24 0 * 512 else 0, first := n0 + n1 }

/-- Device address of a unit of the table. -/
def DieSt.unitAddr (x : DieSt) (u : Nat) : Nat :=
  let r0 := x.region 0; let r1 := x.region 1; let r2 := x.region 2
  if u < r1.first then r0.base + u * 4096
  else if u < r2.first then r1.base + (u - r1.first) * 4096 else r2.base + (u - r2.first) * 4096

/-- The region of a tier code's frame (R298): code 1 the pool, 2 the tier 1 region, 3 the tier 2 region. -/
def DieSt.unitOfAddr (x : DieSt) (tierCode a : Nat) : Nat :=
  let r := x.region (tierCode - 1)
  r.first + (a - r.base) / 4096

/-- The region that a unit lies in. -/
def DieSt.regionOf (x : DieSt) (u : Nat) : Nat :=
  if u < (x.region 1).first then 0 else if u < (x.region 2).first then 1 else 2

/-! ### Autonomous spill as Weir orders it (R308) -/

/-- A watermark of w/256 of the pool, as used * 256 against w * units. -/
def State.watermark (s : State) (d : Die) : Nat × Nat :=
  let m := s.dies[d].memBlk
  let n := field m[9] 10 0 * 512
  (field m[10] 7 0 * n, field m[10] 15 8 * n)

/-- Pool units in use, not counting those whose release is deferred, are above the low watermark (R308). -/
def State.aboveLow (s : State) (d : Die) : Bool :=
  let held := ((s.dies[d].page.deferred.filter (fun e => decide (s.dies[d].regionOf e.1 = 0))).map (fun e => e.2.1)).sum
  decide ((s.watermark d).2 < (field s.dies[d].memBlk[11] 19 0 - held) * 256)

/-- Autonomous spill has work: spill_active, auto_spill and enable are set, and the pool is above the low watermark (R308). -/
def State.spillWanted (s : State) (d : Die) : Bool :=
  bitAt s.dies[d].memBlk[11] 31 && bitAt s.dies[d].pageBlk[0] 1 && bitAt s.dies[d].pageBlk[0] 0 && s.aboveLow d

/-! ### Weir's choice (R193-R197) -/

/-- The class a queue's head is served in: one higher when aged, never higher than INTERACTIVE (R197). -/
def effClass (cls : Nat) (l : Live) : Nat := if l.aged && decide (2 ≤ cls) then cls - 1 else cls

/-- The n-th live command of the queue belongs to the list that holds the slot (R194): an OVERLAP command that begins the queue's next
list does not, until the list before it has left. -/
def Queue.servedBySlot (q : Queue) (n : Nat) : Bool := q.inSlot && !(((q.live.take (n + 1)).drop 1).any (fun l => l.first))

/-- The eligible commands of an engine of die d: (queue, class, command) (R194). -/
def State.eligible (s : State) (d : Die) (e : Engine) : List (QIdx × Nat × Live) :=
  (List.finRange 32).filterMap fun q =>
    let x := s.dies[d].queues[q]
    if engineOf q = e ∧ x.state = 1 ∧ x.stale = false ∧ x.full = false then
      match x.eligibleAt with
      | some (n, l) => if x.cls = 0 ∧ !x.servedBySlot n then none else some (q, effClass x.cls l, l)
      | none => none
    else none

/-- Members of an engine's round robin: its queues, and on the PAGE engine autonomous spill, numbered after queue 31 (R308). -/
def engineRing (e : Engine) : Nat := match e with | .page => 9 | e => engineSize e

/-- Place of member i of an engine's round robin after the one served last. -/
def ringPlace (e : Engine) (last i : Nat) : Nat := (i + engineRing e - 1 - last % engineRing e) % engineRing e

/-- Order within a non-URGENT class: deadlines first, earliest first; then round robin after the queue served last (R195). -/
def classKey (e : Engine) (last : Nat) (p : QIdx × Nat × Live) : Nat × Nat :=
  if (header p.2.2.bytes).dueValid then (0, (p.2.2.dueBy.map BitVec.toNat).getD (2 ^ 64))
  else (1, ringPlace e last (p.1.val - engineBase e))

/-- Lexicographic order of keys. -/
def keyBefore (a b : Nat × Nat) : Bool := decide (a.1 < b.1) || (decide (a.1 = b.1) && decide (a.2 < b.2))

/-- The element with the smallest key; the first of equals. -/
def pickMin {α : Type} (key : α → Nat × Nat) : List α → Option α
  | [] => none
  | x :: xs => some (xs.foldl (fun b c => if keyBefore (key c) (key b) then c else b) x)

/-- Autonomous spill comes before every eligible BACKGROUND command of die d (R195, R308). -/
def State.spillFirst (s : State) (d : Die) : Bool :=
  let last := s.dies[d].engines[engineIdx .page].lastServed[(3 : Fin 4)]
  ((s.eligible d .page).filter (fun p => p.2.1 == 3)).all (fun p =>
    keyBefore (1, ringPlace .page last 8) (classKey .page last p))

/-- Weir's choice for an engine that is free: the queue, and the class it is served in (R195). While a preempted command is
saved, or autonomous spill has the engine, only a command of the slot is started (R196, R209, R308). -/
def State.weirPick (s : State) (d : Die) (e : Engine) : Option (QIdx × Nat) :=
  let all := s.eligible d e
  let en := s.dies[d].engines[engineIdx e]
  match all.find? (fun p => p.2.1 == 0) with
  | some p => some (p.1, 0)
  | none =>
    if en.saved.isSome || (decide (e = .page) && s.dies[d].page.spilling && s.spillWanted d) then none
    else
      let pick (c : Nat) (hc : c < 4) := (pickMin (classKey e (en.lastServed[c])) (all.filter (fun p => p.2.1 == c))).map
        (fun p => (p.1, c))
      match pick 1 (by decide) with
      | some x => some x
      | none => match pick 2 (by decide) with
        | some x => some x
        | none => if decide (e = .page) && s.spillWanted d && s.spillFirst d then none else pick 3 (by decide)

/-! ### Starting, ending and cutting -/

/-- The n-th command of a queue changed. -/
def Queue.modLive (q : Queue) (n : Nat) (f : Live → Live) : Queue := { q with live := q.live.modify n f }

/-- The command that Weir starts on engine e of die d with opcode op on queue q, with its place in the queue: the die runs, the
engine is free, and the queue is Weir's choice. -/
def State.startable (s : State) (d : Die) (q : QIdx) (op : Nat) : Option (Nat × Live) :=
  let e := engineOf q
  if s.dieRuns d && s.dies[d].engines[engineIdx e].running.isNone
      && decide ((s.weirPick d e).map (·.1) = some q) then
    match s.dies[d].queues[q].eligibleAt with
    | some (n, l) => if (header l.bytes).opcode = op then some (n, l) else none
    | none => none
  else none

/-- The command enters step 5: the engine runs it, and it is the last served of its class (R193, R195). -/
def State.beginExec (s : State) (d : Die) (q : QIdx) (n : Nat) : State :=
  let e := engineIdx (engineOf q)
  let cls := (((s.weirPick d (engineOf q)).map (·.2)).getD 0)
  let en := s.dies[d].engines[e]
  let en := { en with running := some q, lastServed := en.lastServed.setIfInBounds cls (q.val - engineBase (engineOf q)), boundary := false }
  (s.modDie d (fun x => { x with engines := x.engines.set e en })).modQueue (.die d) q
    (fun x => x.modLive n (fun l => { l with phase := .running }))

/-- The command ends its execution with a status; the engine is free (R193). -/
def State.endExec (s : State) (d : Die) (q : QIdx) (n : Nat) (st : Nat) (loc : Word) : State :=
  let e := engineIdx (engineOf q)
  let en := s.dies[d].engines[e]
  let en := { en with running := if en.running = some q then none else en.running, boundary := false,
                      saved := if en.saved = some q then none else en.saved }
  (s.modDie d (fun x => { x with engines := x.engines.set e en })).modQueue (.die d) q
    (fun x => x.modLive n (fun l => { l with phase := .ended, status := st, location := loc }))

/-- A target as a list of written bytes names it. -/
def targetCode : Target → Nat × Nat
  | .die d a => (d.val, a)
  | .host h => (4, h)
  | .work o => (5, o)
  | .pfRegs o => (6, o)
  | .twin d o => (8 + d.val, o)

/-- The target so named. -/
def codeTarget (r a : Nat) : Target :=
  if r < 4 then .die (Fin.ofNat 4 r) a
  else if r = 4 then .host a else if r = 5 then .work a else if r = 6 then .pfRegs a else .twin (Fin.ofNat 4 (r - 8)) a

/-- The n bytes from a as they were before a command wrote them, and as it left them in state t. -/
def State.wrote (s t : State) (fn : Fn) (tw : Bool) (a : Nat) : Nat → List Wrote
  | 0 => []
  | n + 1 =>
    match s.routeFn fn tw a with
    | .ok x => { region := (targetCode x).1, addr := (targetCode x).2, old := s.peek x, new := t.peek x } :: s.wrote t fn tw (a + 1) n
    | .error _ => s.wrote t fn tw (a + 1) n

/-- The memory of a target is in service: a die in Midnight holds nothing, one in Night no tier 0 (R105). -/
def State.holds (s : State) : Target → Bool
  | .die d a => decide (s.dies[d].power < 5) && (decide (s.dies[d].power < 4) || !decide (a < 0x80000000))
  | _ => true

/-- The free number that the n-th open choice gives the aligned g bytes around a written byte. -/
def Wrote.pick (u : Wrote) (n g : Nat) : Nat := Config.freeAt n (u.region * 2 ^ 61 + u.addr / g)

/-- Another access has written since to the aligned word of byte u, of the bytes us that a command wrote. -/
def State.since (s : State) (us : List Wrote) (u : Wrote) : Bool :=
  us.any (fun x => decide (x.region = u.region ∧ x.addr / 8 = u.addr / 8) && (s.peek (codeTarget x.region x.addr) != x.new))

/-- A command that ended before its last step leaves each aligned run of g bytes that it was writing either old or new, which is open
(R145, R146, R153, R187; assumption log 9); a word that another access has written since stays. -/
def State.leaveOpen (s : State) (g : Nat) (us : List Wrote) : State :=
  if us.isEmpty then s
  else
    let (n, s) := s.draw
    (us.filter (fun u => decide (u.pick n g % 2 = 1) && !s.since us u)).foldl (fun (s : State) u =>
      let t := codeTarget u.region u.addr
      if s.holds t then s.poke t u.old else s) s

/-- Some byte that the command wrote has been written by another access since. -/
def State.mixed (s : State) (us : List Wrote) : Bool := us.any (fun u => s.peek (codeTarget u.region u.addr) != u.new)

/-- A command's last step ends. A word that another access wrote while the command was writing it, with no order between them, holds one
of the two writes or what was there before (R153); which is open (assumption log 9). -/
def State.mixWords (s : State) (us : List Wrote) : State :=
  if !s.mixed us then s
  else
    let (n, s) := s.draw
    (us.filter (s.since us)).foldl (fun (s : State) u =>
      let t := codeTarget u.region u.addr
      if !s.holds t then s
      else if u.pick n 8 % 3 = 1 then s.poke t u.new else if u.pick n 8 % 3 = 2 then s.poke t u.old else s) s

/-- The aligned bytes that a failing write leaves whole (R145, R153). -/
def sectorOf (st : Nat) : Nat := if st = stLinkDown then 32 else 8

/-- A command ends before its last step with a status: what it was writing is open (R146, R187). -/
def State.cut (s : State) (d : Die) (q : QIdx) (n : Nat) (st : Nat) (loc : Word) : State :=
  match s.dies[d].queues[q].live[n]? with
  | some l => (s.leaveOpen (sectorOf st) l.undo).endExec d q n st loc
  | none => s

/-- Commands that are not in execution are dropped; they are read again at their turn (R185, R187, R188). -/
def Queue.dropUnstarted (q : Queue) : Queue :=
  let keep := q.live.takeWhile Live.inExec
  let rest := q.live.dropWhile Live.inExec
  match rest with
  | [] => q
  | l :: _ => { q with live := keep, next := l.pos, listOpen := !l.first }

/-- The restart statuses: such a command is not consumed (R185, R187). -/
abbrev stStale : Nat := 0x401
abbrev stCancelled : Nat := 0x402
abbrev stWaitTimeout : Nat := 0x403
abbrev stRingFault : Nat := 0x404

/-- CMD_QERR or CMD_QSTALE as stored is updated for queue q. -/
def State.setQerr (s : State) (d : Die) (q : QIdx) (b : Bool) : State :=
  let w := s.dies[d].cmdBlk[12]
  let s' := s.modDie d (fun x => { x with cmdBlk := x.cmdBlk.set 12 (setBit w q.val b) })
  if b && !bitAt w q.val then s'.dieInt d 2 else s'

/-- Commands that are not running end as given; a running one is cut at its next step boundary (R185). A preempted one ends without
being restored (R210). -/
def Live.cancelled (l : Live) : Live :=
  if l.phase = .running then { l with cancel := true } else { l with phase := .ended, status := stCancelled, location := 0 }

/-- Later commands that have already started under OVERLAP end CANCELLED, a running one at its next step boundary; those that have not
started are dropped (R185, R210). A PANEL command has no steps of this kind, so that it ends at once (R346). -/
def State.cancelLater (s : State) (fn : Fn) (q : QIdx) : State :=
  let s := s.modQueue fn q Queue.dropUnstarted
  match fn with
  | .die d =>
    let s := (List.range (s.queue fn q).live.length).foldl (fun (s : State) n =>
      if n ≠ 0 ∧ ((s.queue fn q).live[n]?.map Live.phase) = some .preempted then s.cut d q n stCancelled 0 else s) s
    s.modQueue fn q (fun x => { x with live := x.live.take 1 ++ (x.live.drop 1).map Live.cancelled })
  | .pf => s.modQueue fn q (fun x =>
      { x with live := x.live.take 1 ++ (x.live.drop 1).map (fun l => { l with phase := .ended, status := stCancelled, location := 0 }) })

/-- A command of queue q failed at position pos with status st: the queue halts (R185). A DRAINING queue stays so (R188). -/
def State.halt (s : State) (fn : Fn) (q : QIdx) (pos : Word) (st : Nat) : State :=
  let s := s.modQueue fn q (fun x =>
    { x with state := if x.state = 1 ∨ x.state = 2 then 2 else x.state, errPos := pos, errStatus := st })
  let s := match fn with | .die d => s.setQerr d q true | .pf => s
  (s.cancelLater fn q).leaveSlot fn q

/-- DRAINING ends when no command is in execution (R188). -/
def Queue.drained (q : Queue) : Queue :=
  if q.state = 3 ∧ q.live.all (fun l => !l.inExec) then { q with state := 0, live := [] } else q

end Sys2Proof.Machine
end

