-- ==== Sys2Proof/Machine/Access.lean ====
section
/-!
DEFINITION. How a command reads and writes its tensors: element and scale codes by index (R177), the bytes a tensor covers, the
first failure of a command's accesses (R146, R149), output bytes with their poison (R151), and what a failed or cut command
leaves in its outputs.
-/
namespace Sys2Proof.Machine

open Sys2Proof

/-- Who reads: the function, and whether twin windows are within its reach. -/
structure Port3 where
  fn : Fn
  tw : Bool
  deriving DecidableEq, Repr

/-- The view of memory of queue q's command. -/
def viewOf (fn : Fn) (q : QIdx) : Port3 := { fn := fn, tw := twinAllowed fn q }

/-- The bytes at an address as the command reads them. -/
def State.bytesAt (s : State) (v : Port3) (a n : Nat) : List Byte := s.loadN v.fn v.tw a n

/-- The code of element ix of a tensor (R177). -/
def State.elemCode (s : State) (v : Port3) (d : Desc) (ix : List Nat) : Nat :=
  let b := formatBits d.format
  if b < 8 then leNat (s.bytesAt v (d.addr ix) 1) / 2 ^ d.bitOf ix % 2 ^ b else leNat (s.bytesAt v (d.addr ix) (b / 8))

/-- The scale byte of the block that holds element ix; 127 without mx (R226). -/
def State.scaleCode (s : State) (v : Port3) (d : Desc) (ix : List Nat) : Nat :=
  if d.mx then leNat (s.bytesAt v (d.scaleAddr ix) 1) else 127

/-- Element ix decoded without its scale. -/
def State.rawVal (s : State) (v : Port3) (d : Desc) (ix : List Nat) : Val := decodeElem d.format d.mx (s.elemCode v d ix)

/-- Element ix decoded exactly with its MX scale (R177, R225, R226). -/
def State.elemVal (s : State) (v : Port3) (d : Desc) (ix : List Nat) : Val :=
  if d.mx then scaled (s.scaleCode v d ix) (s.rawVal v d ix) else s.rawVal v d ix

/-- The dimensions above the innermost. -/
def Desc.outer (d : Desc) : List Nat := d.shape.drop 1

/-- Number of rows: runs of dimension 0. -/
def Desc.rows (d : Desc) : Nat := d.outer.foldl (· * ·) 1

/-- The outer indices of row n, dimension 1 fastest. -/
def Desc.rowIx (d : Desc) (n : Nat) : List Nat := unrank d.outer n

/-- Bytes of one row (R177). -/
def Desc.rowBytes (d : Desc) : Nat := ceilDiv (d.dims[0] * formatBits d.format) 8

/-- The runs of bytes a tensor covers: its rows in ascending order, then its scales. -/
def Desc.spans (d : Desc) : List (Nat × Nat) :=
  (List.range d.rows).map (fun n => (d.addr (0 :: d.rowIx n), d.rowBytes)) ++ (if d.mx then [(d.scaleBase, d.scaleCount)] else [])

/-- The first byte of a run that a read cannot have. -/
def State.runReadFail (s : State) (v : Port3) (a : Nat) : Nat → Option MemFail
  | 0 => none
  | n + 1 => match s.readCheck v.fn v.tw a 1 with
    | some f => some f
    | none => s.runReadFail v (a + 1) n

/-- The first byte of a run that a write cannot have. -/
def State.runWriteFail (s : State) (v : Port3) (a : Nat) : Nat → Option MemFail
  | 0 => none
  | n + 1 => match s.writeCheck v.fn v.tw a 1 with
    | some f => some f
    | none => s.runWriteFail v (a + 1) n

/-- The first failure of reads over runs of bytes. -/
def State.readFail (s : State) (v : Port3) (spans : List (Nat × Nat)) : Option MemFail :=
  spans.findSome? (fun p => s.runReadFail v p.1 p.2)

/-- The first failure of writes over runs of bytes. -/
def State.writeFail (s : State) (v : Port3) (spans : List (Nat × Nat)) : Option MemFail :=
  spans.findSome? (fun p => s.runWriteFail v p.1 p.2)

/-- The first poisoned byte among the bytes a transfer reads. -/
def State.poisonRead (s : State) (v : Port3) (spans : List (Nat × Nat)) : Option MemFail :=
  spans.findSome? (fun p => (s.firstPoison v.fn v.tw p.1 p.2).map
    (fun b => { status := stMemUe, kind := if b.2 then 2 else 1, addr := b.1 }))

/-- Bytes to write from an address, each marked when it carries poisoned data. -/
structure Emit where
  addr : Nat
  data : List Byte
  bad : List Bool
  deriving DecidableEq, Repr

/-- Bytes that carry no poison. -/
def Emit.clean (a : Nat) (bs : List Byte) : Emit := { addr := a, data := bs, bad := [] }

/-- The unit that a byte lies in becomes poisoned by propagation (R151). -/
def State.spoilByte (s : State) (v : Port3) (a : Nat) : State :=
  match s.routeFn v.fn v.tw a with
  | .ok (.die e o) => s.setPoison e (unitOf o) (some true)
  | _ => s

/-- One run of output bytes is written, as data of the command. -/
def State.emit (s : State) (v : Port3) (e : Emit) : State :=
  let s := (s.storeN v.fn v.tw e.addr e.data false).postUp v.fn v.tw e.addr e.data.length true (fun i => e.bad.getD i false)
  e.bad.zipIdx.foldl (fun (s : State) (p : Bool × Nat) => if p.1 then s.spoilByte v (e.addr + p.2) else s) s

/-- The runs of an output. -/
def emitSpans (es : List Emit) : List (Nat × Nat) := es.map (fun e => (e.addr, e.data.length))

/-- Runs of bytes as they were before a command wrote them, and as it left them (assumption log 9). -/
def State.wroteSpans (s t : State) (v : Port3) (spans : List (Nat × Nat)) : List Wrote :=
  spans.flatMap (fun p => s.wrote t v.fn v.tw p.1 p.2)

/-- Outputs are written, in order. -/
def State.emitAll (s : State) (v : Port3) (es : List Emit) : State := es.foldl (fun (s : State) e => s.emit v e) s

/-- A run as (region, first place in it, bytes). -/
def State.place (s : State) (v : Port3) (p : Nat × Nat) : Nat × Nat × Nat :=
  match s.routeFn v.fn v.tw p.1 with
  | .ok t => ((targetCode t).1, (targetCode t).2, p.2)
  | .error _ => (99, 0, 0)

/-- Place o of region r lies in a run. -/
def inPlace (r o : Nat) (p : Nat × Nat × Nat) : Bool := decide (p.1 = r) && decide (p.2.1 ≤ o) && decide (o < p.2.1 + p.2.2)

/-- Output bytes that overlap an input or another output are undefined (R154): each becomes a free byte. -/
def State.openOverlaps (s : State) (v : Port3) (reads outs : List (Nat × Nat)) : State :=
  let ins := reads.map (s.place v)
  let os := outs.map (s.place v)
  os.foldl (fun (s : State) (p : Nat × Nat × Nat) =>
    let hits := ins.filter (fun x => decide (x.1 = p.1 ∧ x.2.1 < p.2.1 + p.2.2 ∧ p.2.1 < x.2.1 + x.2.2))
    let twice := os.filter (fun x => decide (x.1 = p.1 ∧ x.2.1 < p.2.1 + p.2.2 ∧ p.2.1 < x.2.1 + x.2.2))
    if hits.isEmpty ∧ twice.length ≤ 1 then s
    else (List.range p.2.2).foldl (fun (s : State) i =>
      if hits.any (inPlace p.1 (p.2.1 + i)) || decide (2 ≤ (twice.filter (inPlace p.1 (p.2.1 + i))).length) then
        let (k, s) := s.draw
        s.poke (codeTarget p.1 (p.2.1 + i)) (Config.freeByte k)
      else s) s) s

/-- Sub-byte and whole-byte codes packed into bytes, the lowest index in the lowest bits (R177). -/
def packCodes (bits : Nat) (codes : List Nat) : List Byte :=
  leBytes (ceilDiv (codes.length * bits) 8) (codes.foldr (fun c acc => c % 2 ^ bits + acc * 2 ^ bits) 0)

/-- The outcome of a command's execution on the present memory: the runs it reads in order, what it writes, and its result
field. -/
structure Work where
  reads : List (Nat × Nat)
  /-- Table entries that are read and may be rewritten: checked, and not counted as operands. -/
  checks : List (Nat × Nat) := []
  emits : List Emit
  result : Nat

/-- A unit that was poisoned before stays so where the command that wrote it did not write it whole (R151). -/
def State.keepPoison (s t : State) : State :=
  { t with dies := Vector.ofFn fun d : Die => { t.dies[d] with
      poison := s.dies[d].poison ++ t.dies[d].poison.filter (fun u => !s.dies[d].poison.any (fun x => x.unit == u.unit)) } }

/-- The failing end of a die command: the access is logged, its status and location are set (R146). The writes made before the failure
remain; which they are is open, by sector where a link failed (R145), else by word (R153; assumption log 9). -/
def State.failExec (s : State) (d : Die) (q : QIdx) (n : Nat) (f : MemFail) (isWrite : Bool) (es : List Emit) : State :=
  let v := viewOf (.die d) q
  let (loc, s) := s.raiseMem (.die d) v.tw (queueRequester (.die d) q) isWrite f
  let t := s.emitAll v es
  (s.keepPoison (t.leaveOpen (sectorOf f.status) (s.wroteSpans t v (emitSpans es)))).endExec d q n f.status loc

/-- What the ECC found at a byte that an engine of die d reads (R147): an error that it corrects is counted at the die that holds the
byte; one that it cannot marks the unit, so that the read meets it. An unwritten tier 1 region has no error (R152). -/
def State.eccAt (s : State) (d : Die) (tw : Bool) (ev : AccessEvent) : State :=
  match ev with
  | .corrected b => match s.routeFn (.die d) tw b with
    | .ok (.die e o) => if s.written e o then s.countCorrected e o else s
    | _ => s
  | .uncorrectable b => match s.routeFn (.die d) tw b with
    | .ok (.die e o) => if s.written e o then s.setPoison e (unitOf o) (some ((s.poisonAt (.die e o)).getD false)) else s
    | _ => s
  | _ => s

/-- What a command that starts under OVERLAP reads from the outputs of the commands before it, which have not completed, is undefined
(R168): each of those bytes is a free one. -/
def State.veil (s : State) (d : Die) (q : QIdx) (n : Nat) : State :=
  let us := (s.dies[d].queues[q].live.take n).flatMap Live.undo
  if us.isEmpty then s
  else
    let (k, s) := s.draw
    us.zipIdx.foldl (fun (s : State) (p : Wrote × Nat) =>
      s.poke (codeTarget p.1.region p.1.addr) (BitVec.ofNat 8 (Config.freeAt k p.2))) s

/-- A command's work is done on the present memory: the first failing read or write ends it; else its outputs are written, and
the command runs on to the end of its last step. -/
def State.doWork (s : State) (d : Die) (q : QIdx) (n : Nat) (w : Work) : State :=
  let v := viewOf (.die d) q
  let outs := emitSpans w.emits
  match s.readFail v (w.checks ++ w.reads) with
  | some f => s.failExec d q n f false w.emits
  | none => match s.writeFail v outs with
    | some f => s.failExec d q n f true w.emits
    | none =>
      let t := (s.emitAll v w.emits).openOverlaps v w.reads outs
      t.modQueue (.die d) q (fun x => x.modLive n (fun l => { l with result := w.result, undo := s.wroteSpans t v outs }))

/-- Weir starts the command with opcode op on queue q of die d, and its work is done; without such a command nothing happens. -/
def State.runWith (s : State) (d : Die) (q : QIdx) (op : Nat) (work : State → Live → Work) : State :=
  match s.startable d q op with
  | none => s
  | some (n, l) =>
    let s := s.beginExec d q n
    let r := s.veil d q n
    { s with freeCtr := r.freeCtr }.doWork d q n (work r l)

/-- The values of one row (dimension 0 at outer indices) as a command writes them: without mx each is converted on its own; with mx
along dimension 0 the row is quantised (R258-R260). Answers the emits, and each value as given and as written. -/
def Desc.emitRow (d : Desc) (outer : List Nat) (rnd sat : Nat) (vs : List Val) : List Emit × List (Val × Val) :=
  let bits := formatBits d.format
  if d.mx then
    let bs := mxRow d.format rnd sat vs
    ([Emit.clean (d.addr (0 :: outer)) (packCodes bits (bs.flatMap (·.2))),
      Emit.clean (d.scaleAddr (0 :: outer)) (bs.map (fun b => BitVec.ofNat 8 b.1))],
     vs.zip (bs.flatMap (fun b => b.2.map (fun c => scaled b.1 (decodeElem d.format true c)))))
  else
    let cs := vs.map (convert d.format false rnd sat)
    ([Emit.clean (d.addr (0 :: outer)) (packCodes bits cs)], vs.zip (cs.map (decodeElem d.format false)))

/-- The values of all rows of a tensor, as a command writes them. -/
def Desc.emitVals (d : Desc) (rnd sat : Nat) (f : Nat → List Val) : List Emit × List (List (Val × Val)) :=
  let rows := (List.range d.rows).map (fun n => d.emitRow (d.rowIx n) rnd sat (f n))
  (rows.flatMap (·.1), rows.map (·.2))

/-- The runs of bytes of one row with its scales along dimension 0. -/
def Desc.rowSpans (d : Desc) (outer : List Nat) : List (Nat × Nat) :=
  (d.addr (0 :: outer), d.rowBytes) :: (if d.mx then [(d.scaleAddr (0 :: outer), ceilDiv d.dims[0] 32)] else [])

/-- A tensor of codes, element n in the order of dimensions (innermost first). -/
def Desc.emitCodes (d : Desc) (f : Nat → Nat) : List Emit :=
  (List.range d.rows).map (fun n => Emit.clean (d.addr (0 :: d.rowIx n))
    (packCodes (formatBits d.format) ((List.range d.dims[0]).map (fun i => f (n * d.dims[0] + i)))))

/-- Outputs written as NaN or infinity; a NaN is counted also where its format has no code for it (R241, R265). -/
def countWritten (rows : List (List (Val × Val))) : Nat :=
  (rows.map (fun r => (r.filter (fun p => p.2.nonFinite || p.1.isNan)).length)).sum

/-- The sat of an output conversion (R260): 1 for FP32, BF16 and FP16, 0 for FP8, FP4 and INT8 with mx. -/
def outSat (f : Nat) : Nat := if f = 0x01 ∨ f = 0x02 ∨ f = 0x03 then 1 else 0

/-- The absent descriptor that index 0xFFFF stands for. -/
def Desc.none : Desc :=
  { base := 0, format := 0, rank := 0, mx := false, scaleDim := 0, dims := .replicate 5 0, strides := .replicate 5 0, scaleBase := 0 }

/-- Base and strides are multiples of k (R178, R238, R245). -/
def Desc.aligned (d : Desc) (k : Nat) : Bool :=
  decide (d.base % k = 0) && (List.finRange 5).all (fun i => decide (i.val = 0) || decide (d.strides[i] % k = 0))

/-- A float operand format: BF16, FP16, FP8, FP4, or INT8 with mx (R224). -/
def Desc.floatOperand (d : Desc) : Bool :=
  decide (d.format ∈ [0x02, 0x03, 0x04, 0x05, 0x06]) || (decide (d.format = 0x07) && d.mx)

/-- A float format as outputs and ELTWISE sources have it: FP32 and the float operand formats (R260, R262). -/
def Desc.floatAny (d : Desc) : Bool := decide (d.format = 0x01) || d.floatOperand

/-- FP32, BF16 or FP16 without mx (R245). -/
def Desc.plainFloat (d : Desc) : Bool := decide (d.format ∈ [0x01, 0x02, 0x03]) && !d.mx

end Sys2Proof.Machine
end

