-- ==== Sys2Proof/Machine/Chains.lean ====
section
/-!
DEFINITION. The chain menu and its parameters (R243-R246), auxiliary tensors (R245), prologues, feeds and epilogues (R247-R254),
statistics capture (R257), and STATS, ELTWISE and PANEL_CLASSIFY (R261-R265).
-/
namespace Sys2Proof.Machine

open Sys2Proof

/-! ### The chain menu (R243) -/

/-- The prologue of a chain. -/
inductive Prologue where
  | none | rms | layer | modulated | silu | gelu
  deriving DecidableEq, Repr

/-- The activation stage of an epilogue. -/
inductive Act where
  | none | silu | gelu
  deriving DecidableEq, Repr

/-- The role of an auxiliary operand (R245). -/
inductive Role where
  | bias | gamma | beta | scale | shift | gate | res | up | statsRead | statsWrite | plane
  deriving DecidableEq, Repr

/-- An entry of the menu: prologue, activation, and the roles of the aux slots that it uses, in order. The other stages follow
from the roles: bias, gate, residual, SwiGLU from up, statistics from a written stats tensor, classify from a plane. -/
structure Chain where
  pro : Prologue
  act : Act
  roles : List Role
  deriving DecidableEq, Repr

/-- The menu. Entry 0x19 is latent expansion, which uses no aux operand (R313). -/
def chainOf (id : Nat) : Chain :=
  let e (p : Prologue) (a : Act) (r : List Role) : Chain := { pro := p, act := a, roles := r }
  match id with
  | 0x01 => e .none .none [.bias]
  | 0x02 => e .none .silu [.bias]
  | 0x03 => e .none .gelu [.bias]
  | 0x04 => e .none .silu []
  | 0x05 => e .none .gelu []
  | 0x06 => e .none .none [.up]
  | 0x07 => e .none .none [.res]
  | 0x08 => e .none .none [.bias, .res]
  | 0x09 => e .none .none [.gate, .res]
  | 0x0A => e .none .none [.bias, .gate, .res]
  | 0x0B => e .none .none [.res, .statsWrite]
  | 0x0C => e .none .none [.bias, .res, .statsWrite]
  | 0x0D => e .none .none [.gate, .res, .statsWrite]
  | 0x0E => e .none .none [.bias, .gate, .res, .statsWrite]
  | 0x0F => e .none .none [.statsWrite]
  | 0x10 => e .rms .none [.statsRead, .gamma]
  | 0x11 => e .rms .none [.statsRead, .gamma, .up]
  | 0x12 => e .layer .none [.statsRead, .gamma, .beta]
  | 0x13 => e .modulated .none [.statsRead, .scale, .shift]
  | 0x14 => e .modulated .none [.statsRead, .scale, .shift, .up]
  | 0x15 => e .modulated .none [.statsRead, .scale, .shift, .bias]
  | 0x16 => e .silu .none []
  | 0x17 => e .gelu .none []
  | 0x18 => e .silu .none [.bias]
  | 0x1A => e .none .none [.plane]
  | 0x1B => e .none .none [.bias, .plane]
  | 0x1C => e .none .none [.up, .statsWrite]
  | 0x1D => e .layer .none [.statsRead, .gamma, .beta, .bias]
  | 0x1E => e .rms .none [.statsRead, .gamma, .bias]
  | 0x1F => e .none .none [.bias, .gate]
  | _ => e .none .none []

/-- A norm prologue, which reads statistics. -/
def Chain.norm (c : Chain) : Bool := c.roles.contains .statsRead

/-- A chain that uses modulation samples (R246). -/
def Chain.sampled (c : Chain) : Bool := c.roles.any (fun r => decide (r = .scale ∨ r = .shift ∨ r = .gate))

/-! ### Chain parameters (R246) -/

/-- eps, alpha, sample_len and feed of chain_param bytes at body offset 16. -/
structure ChainParam where
  eps : Val
  alpha : Val
  sampleLen : Nat
  feed : Nat
  deriving DecidableEq, Repr

def chainParam (body : List Byte) : ChainParam :=
  { eps := ofFp32 (leAt body 16 4), alpha := if leAt body 20 4 = 0 then Val.one else ofFp32 (leAt body 20 4),
    sampleLen := leAt body 24 4, feed := byteAt body 28 }

/-- The chain parameters break no rule (R246). -/
def chainParamOk (c : Chain) (body : List Byte) : Bool :=
  let p := chainParam body
  (if c.norm then decide (leAt body 16 4 = 0) || (!p.eps.nonFinite && !p.eps.isNeg && !p.eps.isZero)
   else decide (leAt body 16 4 = 0))
  && (!p.alpha.nonFinite && !p.alpha.isZero)
  && (c.sampled || decide (p.sampleLen = 0))
  && (decide (p.feed = 0) || (decide (c.pro ≠ .none) && decide (2 ≤ p.feed ∧ p.feed ≤ 6)))
  && decide (leAt body 29 3 = 0)

/-! ### Auxiliary tensors (R245) -/

/-- The first failing condition's code, OK where none fails. -/
def firstStatus : List (Bool × Nat) → Nat
  | [] => stOk
  | (b, st) :: rest => if b then st else firstStatus rest

/-- What an operation fixes for its aux tensors: output features F, prologue features K, rows R, the output's descriptor, and the
descriptor that `up` matches (B or w), or for ELTWISE only its dims. -/
structure AuxCtx where
  features : Nat
  proFeatures : Nat
  rows : Nat
  out : Desc
  upLike : Desc
  upAny : Bool

/-- The number of modulation samples (R245). -/
def samples (rows sampleLen : Nat) : Nat := if sampleLen = 0 then 1 else ceilDiv rows sampleLen

/-- The sample of row r (R245). -/
def sampleOf (sampleLen r : Nat) : Nat := if sampleLen = 0 then 0 else r / sampleLen

/-- Dims of a descriptor equal a list. -/
def Desc.hasDims (d : Desc) (ds : List Nat) : Bool := decide (d.shape = ds)

/-- An aux tensor's dims fit its role. -/
def auxShapeOk (c : AuxCtx) (p : ChainParam) (r : Role) (d : Desc) : Bool :=
  match r with
  | .bias => d.hasDims [c.features]
  | .gamma | .beta => d.hasDims [c.proFeatures]
  | .scale | .shift => d.hasDims [c.proFeatures, samples c.rows p.sampleLen]
  | .gate => d.hasDims [c.features, samples c.rows p.sampleLen]
  | .res => d.hasDims c.out.shape
  | .up => d.hasDims c.upLike.shape && (c.upAny || decide (d.mx = c.upLike.mx ∧ d.scaleDim = c.upLike.scaleDim))
  | .statsRead => d.hasDims [4, c.rows] || (decide (1 ≤ d.dims[2] ∧ d.dims[2] ≤ 16) && d.hasDims [4, c.rows, d.dims[2]])
  | .statsWrite => d.hasDims [4, c.rows]
  | .plane => decide (d.rank ≤ 2) && decide (d.count = c.rows) && decide (c.features = 4)

/-- An aux tensor's format is listed for its role; mx only on up. -/
def auxFormatOk (c : AuxCtx) (r : Role) (d : Desc) : Bool :=
  match r with
  | .up => if c.upAny then d.floatAny else decide (d.format = c.upLike.format)
  | .statsRead | .statsWrite => decide (d.format = 0x01) && !d.mx
  | .plane => decide (d.format = 0x0E)
  | _ => d.plainFloat

/-- The aux slots that a chain leaves unused hold 0xFFFF (R243). -/
def auxUnusedOk (c : Chain) (body : List Byte) : Bool :=
  (List.range 4).all (fun i => decide (i < c.roles.length) || decide (leAt body (6 + 2 * i) 2 = 0xFFFF))

/-- A required aux index is absent (R245). -/
def auxMissing (c : Chain) (body : List Byte) : Bool :=
  (List.range 4).any (fun i => decide (i < c.roles.length) && decide (leAt body (6 + 2 * i) 2 = 0xFFFF))

/-- The roles of a chain with their descriptors; `aux` are the four aux descriptors. -/
def Chain.pairs (c : Chain) (aux : List Desc) : List (Role × Desc) := c.roles.zip aux

def auxShapes (ctx : AuxCtx) (p : ChainParam) (c : Chain) (aux : List Desc) : Bool :=
  (c.pairs aux).all (fun x => auxShapeOk ctx p x.1 x.2)
def auxFormats (ctx : AuxCtx) (c : Chain) (aux : List Desc) : Bool := (c.pairs aux).all (fun x => auxFormatOk ctx x.1 x.2)
def auxAligned (c : Chain) (aux : List Desc) : Bool := (c.pairs aux).all (fun x => x.2.aligned 16)

/-- The descriptor with a role. -/
def Chain.desc (c : Chain) (aux : List Desc) (r : Role) : Option Desc := ((c.pairs aux).find? (fun x => decide (x.1 = r))).map (·.2)

/-! ### Stages (R247-R252) -/

/-- What the stages of a running command use. -/
structure Stages where
  chain : Chain
  staged : Bool
  par : ChainParam
  aux : List Desc
  /-- The staging formats of epilogue and prologue (R248). -/
  outStage : Nat
  proStage : Nat

/-- The staging format for a storage format (R248). -/
def stageFormat (f : Nat) (withFp32 : Bool) : Nat := if (withFp32 && decide (f = 0x01)) || f = 0x02 || f = 0x03 then f else 0x02

/-- A value after a stage: under STAGED converted to the staging format and back (R248). -/
def Stages.round (g : Stages) (f : Nat) (v : Val) : Val :=
  if g.staged then decodeElem f false (convert f false 0 1 v) else v

/-- An aux value at an index. -/
def State.auxVal (s : State) (v : Port3) (g : Stages) (r : Role) (ix : List Nat) : Val :=
  match g.chain.desc g.aux r with
  | some d => s.elemVal v d ix
  | none => Val.zero

/-- The record of row r, merged from the parts of the stats tensor (R250, R256). -/
def State.statRow (s : State) (v : Port3) (d : Desc) (r : Nat) : Stat :=
  let part (p : Nat) : Stat :=
    let f (i : Nat) := s.elemVal v d (if d.rank = 3 then [i, r, p] else [i, r])
    { n := f 0, mean := f 1, m2 := f 2, ss := f 3 }
  statParts ((List.range (if d.rank = 3 then d.dims[2] else 1)).map part)

/-- P1 and P2 on the values of row r; a merged n of 0 makes every element NaN (R250). -/
def State.prologue (s : State) (v : Port3) (g : Stages) (r : Nat) (xs : List Val) : List Val :=
  let st := g.round g.proStage
  let k := g.chain.pro
  match k with
  | .none => xs
  | .silu => xs.map (fun x => st (Machine.silu x))
  | .gelu => xs.map (fun x => st (Machine.gelu x))
  | _ =>
    let sr := match g.chain.desc g.aux .statsRead with | some d => s.statRow v d r | none => Stat.empty
    let var := fmul (if k = .rms then sr.ss else sr.m2) (rcp32 sr.n)
    let rstd := rcp32 (sqrt32 (fadd var g.par.eps))
    let sm := sampleOf g.par.sampleLen r
    if sr.n.isZero then xs.map (fun _ => Val.nan) else
    xs.zipIdx.map (fun p =>
      let t := st (if k = .rms then fmul p.1 rstd else fmul (fsub p.1 sr.mean) rstd)
      st (if k = .rms then fmul t (s.auxVal v g .gamma [p.2])
        else if k = .layer then fadd (fmul t (s.auxVal v g .gamma [p.2])) (s.auxVal v g .beta [p.2])
        else fadd (fmul t (fadd Val.one (s.auxVal v g .scale [p.2, sm]))) (s.auxVal v g .shift [p.2, sm])))

/-- E0 to E5 on one output element: a the drained value, u the drained up value, n the feature, r the row, ix the element's
index (R252). -/
def State.epilogue (s : State) (v : Port3) (g : Stages) (n r : Nat) (ix : List Nat) (a u : Val) : Val :=
  let st := g.round g.outStage
  let has (x : Role) := g.chain.roles.contains x
  let sm := sampleOf g.par.sampleLen r
  let x := st (fmul a g.par.alpha)
  let x := if has .bias then st (fadd x (s.auxVal v g .bias [n])) else x
  let x := match g.chain.act with
    | .none => x
    | .silu => st (Machine.silu x)
    | .gelu => st (Machine.gelu x)
  let x := if has .up then st (fmul (Machine.silu x) (st (fmul u g.par.alpha))) else x
  let x := if has .gate then st (fmul x (s.auxVal v g .gate [n, sm])) else x
  if has .res then st (fadd x (s.auxVal v g .res ix)) else x

/-- The stats tensor written with the records of the rows (R257). -/
def statEmits (d : Desc) (rows : List Stat) : List Emit :=
  rows.zipIdx.map (fun p => Emit.clean (d.addr [0, p.2]) (p.1.fields.flatMap (fun x => leBytes 4 (toFp32 x))))

/-- E6 and E7: the output's rows converted, statistics captured from the values as written, classes written to the plane
(R254, R257, R260). `rows r` gives the values after E5. Answers the emits and the count of non-finite outputs. -/
def finish (g : Stages) (out : Desc) (rows : Nat → List Val) : List Emit × Nat :=
  let (es, written) := out.emitVals 0 (outSat out.format) rows
  let es := match g.chain.desc g.aux .statsWrite with
    | some d => es ++ statEmits d (written.map (fun r => statOf (r.map (·.2))))
    | none => es
  let es := match g.chain.desc g.aux .plane with
    | some d => es ++ d.emitCodes (fun r => classify (rows r))
    | none => es
  (es, countWritten written)

/-- The runs that the aux operands read. -/
def Stages.reads (g : Stages) : List (Nat × Nat) :=
  (g.chain.pairs g.aux).flatMap (fun x => if x.1 = .statsWrite ∨ x.1 = .plane then [] else x.2.spans)

/-- The stages of a command from its header, body and aux descriptors. Under chain 0x00 both placements are the same (R248). -/
def stagesOf (l : Live) (outFormat inFormat : Nat) (aux : List Desc) : Stages :=
  let h := header l.bytes
  let par := chainParam (l.bytes.drop 16)
  { chain := chainOf h.chain, staged := decide (h.round = 1) && decide (h.chain ≠ 0), par := par, aux := aux,
    outStage := stageFormat outFormat true, proStage := stageFormat (if par.feed = 0 then inFormat else par.feed) false }

/-! ### STATS (R261) -/

/-- A STATS body passes its rules. -/
def statsBodyOk (body : List Byte) : Bool := decide (byteAt body 4 ≤ 2) && decide (leAt body 5 43 = 0)

/-- Step 4 of STATS: MOMENTS and ROWSUM take the float formats of R224, of which FP32 is none. -/
def statsStatus (body : List Byte) (ds : List Desc) : Nat :=
  let src := ds.getD 0 Desc.none
  let dst := ds.getD 1 Desc.none
  let mode := byteAt body 4
  let merge := decide (mode = 1)
  firstStatus [
    (if merge then !(decide (src.rank = 3) && decide (src.dims[0] = 4) && decide (src.dims[2] ≤ 16) && dst.hasDims [4, src.dims[1]])
     else if mode = 0 then !dst.hasDims [4, src.rows] else !dst.hasDims [src.rows], stShape),
    (!(if merge then decide (src.format = 0x01) && !src.mx else src.floatOperand), stNotSupported),
    (!(decide (dst.format = 0x01) && !dst.mx), stNotSupported),
    (!(src.aligned 16 && dst.aligned 16), stBadAlign)]

/-- The values of row n of a tensor. -/
def State.rowVals (s : State) (v : Port3) (d : Desc) (n : Nat) : List Val :=
  (List.range d.dims[0]).map (fun i => s.elemVal v d (i :: d.rowIx n))

/-- The work of STATS (R261, R265). -/
def State.statsWork (s : State) (v : Port3) (l : Live) : Work :=
  let src := l.descs.getD 0 Desc.none
  let dst := l.descs.getD 1 Desc.none
  let mode := byteAt (l.bytes.drop 16) 4
  let bad (xs : List Val) : Bool := xs.any Val.nonFinite
  if mode = 2 then
    let sums := (List.range src.rows).map (fun n => rowSum (s.rowVals v src n))
    { reads := src.spans, emits := [Emit.clean dst.base (sums.flatMap (fun x => leBytes 4 (toFp32 x)))],
      result := satAt 65535 (sums.filter Val.nonFinite).length * 65536 }
  else
    let recs := if mode = 1 then (List.range src.dims[1]).map (s.statRow v src)
      else (List.range src.rows).map (fun n => statOf (s.rowVals v src n))
    { reads := src.spans, emits := statEmits dst recs,
      result := satAt 65535 (recs.filter (fun r => bad r.fields)).length * 65536 }

/-- STATS (R261). -/
def execStats (d : Die) (q : QIdx) (s : State) : Host.Outcome State Fault Refusal :=
  .next (s.runWith d q 0x14 (fun s l => s.statsWork (viewOf (.die d) q) l))

/-! ### ELTWISE (R262) -/

/-- An ELTWISE body passes its rules; its chain is one it accepts. -/
def eltwiseBodyOk (chain : Nat) (body : List Byte) : Bool :=
  let c := chainOf chain
  decide (leAt body 2 2 = 0) && decide (leAt body 14 2 = 0) && decide (leAt body 32 16 = 0) && auxUnusedOk c body
    && chainParamOk c body

/-- Step 4 of ELTWISE. Descriptors: x, out, aux0-aux3. -/
def eltwiseStatus (chain : Nat) (body : List Byte) (ds : List Desc) : Nat :=
  let x := ds.getD 0 Desc.none
  let out := ds.getD 1 Desc.none
  let aux := ds.drop 2
  let c := chainOf chain
  let ctx : AuxCtx := { features := x.dims[0], proFeatures := x.dims[0], rows := x.rows, out := out, upLike := x, upAny := true }
  let p := chainParam body
  firstStatus [
    (!out.hasDims x.shape, stShape), (out.mx && decide (out.scaleDim ≠ 0), stShape), (!auxShapes ctx p c aux, stShape),
    (!x.floatAny || !out.floatAny, stNotSupported),
    (!auxFormats ctx c aux, stNotSupported), (!(x.aligned 16 && out.aligned 16), stBadAlign), (!auxAligned c aux, stBadAlign)]

/-- The work of ELTWISE (R262, R265). -/
def State.eltwiseWork (s : State) (v : Port3) (l : Live) : Work :=
  let x := l.descs.getD 0 Desc.none
  let out := l.descs.getD 1 Desc.none
  let g := stagesOf l out.format x.format (l.descs.drop 2)
  let up (ix : List Nat) : Val := s.auxVal v g .up ix
  let rows (r : Nat) : List Val :=
    (s.prologue v g r (s.rowVals v x r)).zipIdx.map (fun p =>
      s.epilogue v g p.2 r (p.2 :: x.rowIx r) p.1 (up (p.2 :: x.rowIx r)))
  let (es, bad) := finish g out rows
  { reads := x.spans ++ g.reads, emits := es, result := satAt 65535 bad * 65536 }

/-- ELTWISE (R262). -/
def execEltwise (d : Die) (q : QIdx) (s : State) : Host.Outcome State Fault Refusal :=
  .next (s.runWith d q 0x15 (fun s l => s.eltwiseWork (viewOf (.die d) q) l))

/-! ### PANEL_CLASSIFY (R263) -/

/-- A PANEL_CLASSIFY body passes its rules. -/
def classifyBodyOk (body : List Byte) : Bool := decide (leAt body 6 42 = 0)

/-- Step 4 of PANEL_CLASSIFY. Descriptors: logits, plane, bias. -/
def classifyStatus (body : List Byte) (ds : List Desc) : Nat :=
  let x := ds.getD 0 Desc.none
  let plane := ds.getD 1 Desc.none
  let bias := ds.getD 2 Desc.none
  let hasBias := decide (leAt body 4 2 ≠ 0xFFFF)
  firstStatus [
    (decide (x.dims[0] ≠ 4) || !(decide (plane.rank ≤ 2) && decide (plane.count = x.rows)) || (hasBias && !bias.hasDims [4]), stShape),
    (!x.plainFloat || decide (plane.format ≠ 0x0E) || (hasBias && !bias.plainFloat), stNotSupported),
    (!plane.aligned 16 || (hasBias && !bias.aligned 16), stBadAlign)]

/-- The work of PANEL_CLASSIFY (R263, R265). -/
def State.classifyWork (s : State) (v : Port3) (l : Live) : Work :=
  let x := l.descs.getD 0 Desc.none
  let plane := l.descs.getD 1 Desc.none
  let bias := l.descs.getD 2 Desc.none
  let hasBias := decide (leAt (l.bytes.drop 16) 4 2 ≠ 0xFFFF)
  let rows (r : Nat) : List Val :=
    (s.rowVals v x r).zipIdx.map (fun p => if hasBias then fadd p.1 (s.elemVal v bias [p.2]) else p.1)
  { reads := x.spans ++ (if hasBias then bias.spans else []), emits := plane.emitCodes (fun r => classify (rows r)),
    result := satAt 65535 ((List.range x.rows).filter (fun r => (s.rowVals v x r).any Val.isNan)).length }

/-- PANEL_CLASSIFY (R263). -/
def execPanelClassify (d : Die) (q : QIdx) (s : State) : Host.Outcome State Fault Refusal :=
  .next (s.runWith d q 0x16 (fun s l => s.classifyWork (viewOf (.die d) q) l))

end Sys2Proof.Machine
end

