-- ==== Sys2Proof/Machine/Matrix.lean ====
section
/-!
DEFINITION. The matrix arrays: operand pairs and accumulation paths (R224-R231), split-k (R233, R234), and the GEMM and CONV3D
commands (R237-R242).
-/
namespace Sys2Proof.Machine

open Sys2Proof

/-! ### Accumulation paths -/

/-- The accumulation path of an operand pair (R224). -/
inductive Path where
  | sequential | block | integer
  deriving DecidableEq, Repr

/-- The path of a pair of formats with their mx flags, none where the pair is not allowed (R224). -/
def pathOf (fa : Nat) (ma : Bool) (fb : Nat) (mb : Bool) : Option Path :=
  let float (f : Nat) (m : Bool) := decide (f ∈ [0x02, 0x03, 0x04, 0x05, 0x06]) || (decide (f = 0x07) && m)
  let wide (f : Nat) := decide (f = 0x02 ∨ f = 0x03)
  let int (f : Nat) (m : Bool) := decide (f = 0x07 ∨ f = 0x08) && !m
  if float fa ma && float fb mb then some (if wide fa || wide fb then .sequential else .block)
  else if int fa ma && int fb mb then some .integer
  else none

/-- One block of the k order: the element pairs, the two scale bytes, and whether it lies in the padding (R226, R240). -/
structure KBlock where
  pairs : List (Val × Val)
  ea : Nat
  eb : Nat
  pad : Bool
  deriving DecidableEq, Repr

/-- An accumulator: hi, and lo for compensated mode (R231). -/
structure Accum where
  hi : Val
  lo : Val
  deriving DecidableEq, Repr

def Accum.zero : Accum := { hi := Val.zero, lo := Val.zero }

/-- rne32(acc + x), or the compensated step (R231). -/
def Accum.add (comp : Bool) (a : Accum) (x : Val) : Accum :=
  let s := fadd a.hi x
  if comp then { hi := s, lo := fadd a.lo ((a.hi.add x).sub s) } else { a with hi := s }

/-- The value that the drain passes on (R231). -/
def Accum.drain (comp : Bool) (a : Accum) : Val := if comp then fadd a.hi a.lo else a.hi

/-- The exact sum of a block's products with its scales folded in (R227, R229). -/
def KBlock.sum (b : KBlock) : Val :=
  if b.pad then Val.zero
  else scaled b.ea (scaled b.eb (b.pairs.foldl (fun (p : Val) x => p.add (x.1.mul x.2)) Val.zero))

/-- One block joins the accumulator on a float path (R227, R228). -/
def KBlock.join (path : Path) (comp : Bool) (a : Accum) (b : KBlock) : Accum :=
  match path with
  | .block => a.add comp b.sum
  | _ =>
    if b.pad then b.pairs.foldl (fun (a : Accum) _ => a.add comp Val.zero) a
    else b.pairs.foldl (fun (a : Accum) x => a.add comp ((scaled b.ea x.1).mul (scaled b.eb x.2))) a

/-- The integer of a value. -/
def Val.toInt : Val → Int
  | .fin n m e => signedAt n m e 0
  | _ => 0

/-- One block joins an integer accumulator, modulo 2^32 (R230). -/
def KBlock.joinInt (a : Int) (b : KBlock) : Int :=
  signedOf 32 (codeOf 32 (b.pairs.foldl (fun (a : Int) x => a + (if b.pad then 0 else x.1.toInt * x.2.toInt)) a))

/-- The partial of a chunk of blocks: a drained float value, or an integer as a value (R227-R231). -/
def chunkSum (path : Path) (comp : Bool) (bs : List KBlock) : Val :=
  match path with
  | .integer => Val.ofInt (bs.foldl KBlock.joinInt 0)
  | _ => (bs.foldl (KBlock.join path comp) Accum.zero).drain comp

/-- Addition of partials: rne32, or modulo 2^32 (R234). -/
def partAdd (path : Path) (a b : Val) : Val :=
  match path with
  | .integer => Val.ofInt (signedOf 32 (codeOf 32 (a.toInt + b.toInt)))
  | _ => fadd a b

/-- The chunks of a list of nb blocks under split factor 2^k: ⌈nb / 2^k⌉ consecutive blocks each (R234, R240). -/
def chunks (k : Nat) (bs : List KBlock) : List (List KBlock) :=
  let c := ceilDiv bs.length (2 ^ k)
  (List.range (2 ^ k)).map (fun i => (bs.drop (i * c)).take c)

/-- Partials added in an order that the n-th free value fixes: each time two of those left are added (R233 FAST). -/
def pairSum (path : Path) (n : Nat) : Nat → List Val → Val
  | 0, ps => ps.headD Val.zero
  | k + 1, ps =>
    match ps with
    | [] => Val.zero
    | [p] => p
    | p :: rest =>
      let (i, j) := Config.pairing n (k + 1)
      let all := p :: rest
      let i := i % all.length
      let a := all.getD i Val.zero
      let left := all.eraseIdx i
      let j := j % left.length
      pairSum path n k (partAdd path a (left.getD j Val.zero) :: left.eraseIdx j)

/-- How a command reduces its chunks: the split used, the free value that orders FAST additions, element by element, or none for the
tree, and the compensated flag. -/
structure Split where
  path : Path
  log : Nat
  fast : Option Nat
  comp : Bool
  deriving DecidableEq, Repr

/-- The value of accumulator e of the command after the reduction (R234). In FAST each accumulator adds its partials in an order of its
own (R233; assumption log 41). -/
def Split.reduce (p : Split) (e : Nat) (bs : List KBlock) : Val :=
  let parts := (chunks p.log bs).map (chunkSum p.path p.comp)
  match p.fast with
  | some n => pairSum p.path (Config.freeAt n (64 + e)) parts.length parts
  | none => tree (partAdd p.path) Val.zero p.log parts

/-! ### Body, validation -/

/-- Fields of a GEMM or CONV3D body (R237). -/
def bodyDet (body : List Byte) : Bool := (byteAt body 14).testBit 0
def bodyComp (body : List Byte) : Bool := (byteAt body 14).testBit 1
def bodySplit (body : List Byte) : Nat := byteAt body 15

/-- The format with which A enters the arrays, and whether it carries scales there (R246, R251). -/
def feedOf (c : Chain) (body : List Byte) (a : Desc) : Nat × Bool :=
  let f := (chainParam body).feed
  if c.pro = .none then (a.format, a.mx)
  else
    let g := if f = 0 then a.format else f
    (g, decide (g ∈ [0x04, 0x05, 0x06]) || (decide (g = 0x07) && a.mx))

/-- The path of a GEMM. -/
def gemmPath (c : Chain) (body : List Byte) (a b : Desc) : Option Path :=
  let (f, m) := feedOf c body a
  pathOf f m b.format b.mx

/-- The bytes of a GEMM body break no rule of their own (R238, R246). -/
def gemmBodyOk (chain : Nat) (body : List Byte) : Bool :=
  let c := chainOf chain
  decide (bodySplit body ≤ 4) && decide (byteAt body 14 < 4) && decide (leAt body 32 16 = 0) && auxUnusedOk c body
    && chainParamOk c body

/-- The output format that a path and chain accept (R242, R260). -/
def outFormatOk (path : Path) (chain : Nat) (out : Desc) : Bool :=
  if path = .integer ∧ chain = 0 then decide (out.format = 0x09 ∨ out.format = 0x07) && !out.mx else out.floatAny

/-- The pair's path and A's own format are allowed: with a feed of its own A may be any float format; a prologue never runs on the
integer path (R244, R246). -/
def pairOk (c : Chain) (body : List Byte) (a b : Desc) : Bool :=
  (gemmPath c body a b).isSome && (decide (c.pro = .none) || (a.floatAny && decide (gemmPath c body a b ≠ some .integer)))

/-- The aux context of a GEMM or CONV3D. -/
def matrixCtx (k : Nat) (b out : Desc) : AuxCtx :=
  { features := out.dims[0], proFeatures := k, rows := out.rows, out := out, upLike := b, upAny := false }

/-- Step 4 of GEMM (R238). Descriptors: a, b, c, aux0-aux3. -/
def gemmStatus (chain : Nat) (body : List Byte) (ds : List Desc) : Nat :=
  let a := ds.getD 0 Desc.none
  let b := ds.getD 1 Desc.none
  let o := ds.getD 2 Desc.none
  let aux := ds.drop 3
  let c := chainOf chain
  let path := gemmPath c body a b
  let ctx := matrixCtx a.dims[0] b o
  firstStatus [
    (bodyComp body && decide (path = some .integer), stBadBody),
    (!(decide (a.rank = b.rank ∧ b.rank = o.rank) && decide (a.rank = 2 ∨ a.rank = 3)), stShape),
    (decide (a.dims[0] ≠ b.dims[0] ∨ a.dims[1] ≠ o.dims[1] ∨ b.dims[1] ≠ o.dims[0]), stShape),
    (decide (a.rank = 3) && (decide (a.dims[2] ≠ o.dims[2]) || (decide (b.dims[2] ≠ 1) && decide (b.dims[2] ≠ o.dims[2]))), stShape),
    ((a.mx && decide (a.scaleDim ≠ 0)) || (b.mx && decide (b.scaleDim ≠ 0)) || (o.mx && decide (o.scaleDim ≠ 0)), stShape),
    (!auxShapes ctx (chainParam body) c aux, stShape),
    (!pairOk c body a b, stNotSupported),
    (!(match path with | some p => outFormatOk p chain o | none => false), stNotSupported),
    (!auxFormats ctx c aux, stNotSupported),
    (!(a.aligned 32 && b.aligned 32 && o.aligned 32), stBadAlign),
    (!auxAligned c aux, stBadAlign)]

/-! ### GEMM -/

/-- A row of A as it enters the arrays: element values without their scales, and the scale bytes of its blocks (R226, R251). -/
structure FedRow where
  vals : List Val
  scales : List Nat
  deriving DecidableEq, Repr

/-- A row of an operand fed as it is stored (R226). -/
def State.storedRow (s : State) (v : Port3) (d : Desc) (outer : List Nat) : FedRow :=
  { vals := (List.range d.dims[0]).map (fun k => s.rawVal v d (k :: outer)),
    scales := (List.range (ceilDiv d.dims[0] 32)).map (fun j => s.scaleCode v d (32 * j :: outer)) }

/-- Values converted by the feed conversion (R251, R277): rnd 0; sat 0 with new scales for MX feeds, sat 1 for BF16 and FP16. -/
def feedRow (f : Nat) (mx : Bool) (vs : List Val) : FedRow :=
  if mx then
    let bs := mxRow f 0 0 vs
    { vals := bs.flatMap (fun b => b.2.map (decodeElem f true)), scales := bs.map (·.1) }
  else { vals := vs.map (fun x => decodeElem f false (convert f false 0 1 x)), scales := List.replicate (ceilDiv vs.length 32) 127 }

/-- The blocks of 32 of two fed rows (R226). -/
def fedBlocks (a b : FedRow) : List KBlock :=
  (pieces 32 (a.vals.zip b.vals)).zipIdx.map (fun p =>
    { pairs := p.1, ea := a.scales.getD p.2 127, eb := b.scales.getD p.2 127, pad := false })

/-- The split that a command runs with: exact in DETERMINISTIC; in FAST the die's choice, which is open (R233). -/
def Live.split (l : Live) (path : Path) : Split :=
  let body := l.bytes.drop 16
  if bodyDet body then { path := path, log := bodySplit body, fast := none, comp := bodyComp body }
  else { path := path, log := Config.freeAt l.choice 0 % (bodySplit body + 1), fast := some l.choice, comp := bodyComp body }

/-- The result field of GEMM and CONV3D (R241). -/
def matrixResult (p : Split) (body : List Byte) (bad : Nat) : Nat := p.log + 8 * b2n (bodyDet body) + satAt 65535 bad * 65536

/-- A drained value as it enters the epilogue, or under chain 0x00 on the integer path the integer itself (R244, R260). -/
def entersAs (p : Split) (x : Val) : Val := match p.path with | .integer => rne32 x | _ => x

/-- The work of a matrix command from the blocks of an output element: `blocks ix` for B (or w), `upBlocks ix` for up. -/
def State.matrixWork (s : State) (v : Port3) (l : Live) (chain : Nat) (a b o : Desc) (aux : List Desc)
    (inFormat : Nat) (blocks upBlocks : Nat → List Nat → List KBlock) (p : Split) : Work :=
  let body := l.bytes.drop 16
  let g := stagesOf l o.format inFormat aux
  let isUp := g.chain.roles.contains .up
  let rows (r : Nat) : List Val := (List.range o.dims[0]).map (fun n =>
    let ix := n :: o.rowIx r
    let e := 2 * (r * o.dims[0] + n)
    let x := p.reduce e (blocks r ix)
    if p.path = .integer ∧ chain = 0 then x
    else s.epilogue v g n r ix (entersAs p x) (if isUp then entersAs p (p.reduce (e + 1) (upBlocks r ix)) else Val.zero))
  let (es, bad) := finish g o rows
  { reads := a.spans ++ b.spans ++ g.reads, emits := es, result := matrixResult p body bad }

/-- The work of GEMM (R237, R242). -/
def State.gemmWork (s : State) (v : Port3) (l : Live) : Work :=
  let body := l.bytes.drop 16
  let h := header l.bytes
  let a := l.descs.getD 0 Desc.none
  let b := l.descs.getD 1 Desc.none
  let o := l.descs.getD 2 Desc.none
  let aux := l.descs.drop 3
  let c := chainOf h.chain
  let p := l.split ((gemmPath c body a b).getD .block)
  let g := stagesOf l o.format a.format aux
  let (ff, fm) := feedOf c body a
  let outerA (ix : List Nat) := ix.drop 1
  let rowA (r : Nat) (ix : List Nat) : FedRow :=
    if c.pro = .none then s.storedRow v a (outerA ix)
    else feedRow ff fm (s.prologue v g r ((List.range a.dims[0]).map (fun k => s.elemVal v a (k :: outerA ix))))
  let rowB (d : Desc) (ix : List Nat) : FedRow :=
    s.storedRow v d (ix.headD 0 :: (if d.rank = 3 then [if d.dims[2] = 1 then 0 else ix.getD 2 0] else []))
  let up := (c.desc aux .up).getD b
  s.matrixWork v l h.chain a b o aux a.format (fun r ix => fedBlocks (rowA r ix) (rowB b ix))
    (fun r ix => fedBlocks (rowA r ix) (rowB up ix)) p

/-- GEMM (R237). -/
def execGemm (d : Die) (q : QIdx) (s : State) : Host.Outcome State Fault Refusal :=
  .next (s.runWith d q 0x10 (fun s l => s.gemmWork (viewOf (.die d) q) l))

/-! ### Steps of matrix commands (R207, R208, R236) -/

/-- The lengths in k-values of the chunks of a command's k order under split factor 2^log: `taps` taps of `kin` values, cut in blocks of
at most 32 (R234, R240). -/
def chunkLens (taps kin log : Nat) : List Nat :=
  let sizes := (List.range taps).flatMap (fun _ => (pieces 32 (List.range kin)).map List.length)
  let c := ceilDiv sizes.length (2 ^ log)
  (List.range (2 ^ log)).map (fun i => ((sizes.drop (i * c)).take c).sum)

/-- The k-blocks of a chunk of c values: their lengths, and whether a block is the chunk's last (R236). -/
def kBlocks (c : Nat) : List (Nat × Bool) :=
  (List.range (ceilDiv c 512)).map (fun i => (min 512 (c - 512 * i), decide (c ≤ 512 * (i + 1))))

/-- Extra parts that steps of p tiles of 16 × 16 over a chunk of c values are split into, at one k-step per dc: each step longer than
7,500 dc into the fewest equal parts within that bound (R208, R236). -/
def chunkExtra (p c : Nat) : Nat :=
  ((kBlocks c).map (fun b => ceilDiv (p * b.1 + if b.2 then 16 * p else 0) 7500 - 1)).sum

/-- The extra steps of a FAST command of t output tiles of 16 × 16 (R208, R233, R236). Only 15 or 16 such tiles in progress at one
k-step per dc pass the bound; how many sets of tiles of either size an array takes on each chunk is the die's choice, which is
open. -/
def Live.tileSplits (l : Live) (lens : List Nat) (t : Nat) : Nat :=
  (lens.zipIdx.map (fun p =>
    let n16 := Config.freeAt l.choice (1 + 2 * p.2) % (t / 16 + 1)
    let n15 := Config.freeAt l.choice (2 + 2 * p.2) % ((t - 16 * n16) / 15 + 1)
    n16 * chunkExtra 16 p.1 + n15 * chunkExtra 15 p.1)).sum

/-! ### CONV3D (R239, R240) -/

/-- Stride, low pad, high pad and dilation of axis i (0 w, 1 h, 2 t); the body has t first. -/
def convByte (body : List Byte) (field i : Nat) : Nat := byteAt body (32 + 3 * field + (2 - i))
def convStride (body : List Byte) (i : Nat) : Nat := convByte body 0 i
def convPadLo (body : List Byte) (i : Nat) : Nat := convByte body 1 i
def convPadHi (body : List Byte) (i : Nat) : Nat := convByte body 2 i
def convDil (body : List Byte) (i : Nat) : Nat := convByte body 3 i

/-- Bytes 0-47 of a CONV3D body break no rule of their own. -/
def convBodyOk (chain : Nat) (body : List Byte) : Bool :=
  let c := chainOf chain
  decide (bodySplit body ≤ 4) && decide (byteAt body 14 < 4) && auxUnusedOk c body && chainParamOk c body
    && (List.range 3).all (fun i => decide (1 ≤ convStride body i ∧ convStride body i ≤ 2) && decide (convPadLo body i ≤ 2)
        && decide (convPadHi body i ≤ 2) && decide (1 ≤ convDil body i ∧ convDil body i ≤ 2))
    && decide (leAt body 44 4 = 0)

/-- The output extent of an axis (R240); none where the kernel does not fit. -/
def convExtent (inp k lo hi dil stride : Nat) : Option Nat :=
  if inp + lo + hi < dil * (k - 1) + 1 then none else some ((inp + lo + hi - dil * (k - 1) - 1) / stride + 1)

/-- Base, stride1 and stride2 are multiples of k: what R240 takes over from R238, which names no stride above these (DEDUCED, assumption
log 61). -/
def Desc.lowAligned (d : Desc) (k : Nat) : Bool :=
  decide (d.base % k = 0) && decide (d.strides[1] % k = 0) && decide (d.strides[2] % k = 0)

/-- Step 4 of CONV3D (R240). Descriptors: x, w, y, aux0-aux3. -/
def convStatus (chain : Nat) (body : List Byte) (ds : List Desc) : Nat :=
  let x := ds.getD 0 Desc.none
  let w := ds.getD 1 Desc.none
  let y := ds.getD 2 Desc.none
  let aux := ds.drop 3
  let c := chainOf chain
  let path := gemmPath c body x w
  let taps := w.dims[1] * w.dims[2] * w.dims[3]
  let ctx := matrixCtx (taps * x.dims[0]) w y
  let dim (d : Desc) (i : Nat) : Nat := d.dims[i + 1]?.getD 0
  let extentOk (i : Nat) : Bool := decide (convExtent (dim x i) (dim w i) (convPadLo body i) (convPadHi body i) (convDil body i)
    (convStride body i) = some (dim y i))
  firstStatus [
    (bodyComp body && decide (path = some .integer), stBadBody),
    (!decide (x.rank = 5 ∧ w.rank = 5 ∧ y.rank = 5), stShape),
    (decide (x.dims[0] ≠ w.dims[0] ∨ w.dims[4] ≠ y.dims[0] ∨ x.dims[4] ≠ y.dims[4]), stShape),
    (!(List.range 3).all (fun i => decide (1 ≤ dim w i ∧ dim w i ≤ 3)), stShape),
    (!(List.range 3).all extentOk, stShape),
    ((x.mx && decide (x.scaleDim ≠ 0)) || (w.mx && decide (w.scaleDim ≠ 0)) || (y.mx && decide (y.scaleDim ≠ 0)), stShape),
    (!auxShapes ctx (chainParam body) c aux, stShape),
    (decide (c.pro ≠ .none), stNotSupported),
    (!pairOk c body x w, stNotSupported),
    (!(match path with | some p => outFormatOk p chain y | none => false), stNotSupported),
    (!auxFormats ctx c aux, stNotSupported),
    (!(x.lowAligned 32 && w.lowAligned 32 && y.lowAligned 32), stBadAlign),
    (!auxAligned c aux, stBadAlign)]

/-- The position on axis i that output position o and kernel position k read, none in the padding (R240). -/
def convPos (body : List Byte) (i o k inp : Nat) : Option Nat :=
  let p := o * convStride body i + k * convDil body i
  if p < convPadLo body i ∨ convPadLo body i + inp ≤ p then none else some (p - convPadLo body i)

/-- The blocks of one output element of a convolution: kt outermost, then kh, then kw, then the blocks of C_in (R240). -/
def State.convBlocks (s : State) (v : Port3) (body : List Byte) (x w : Desc) (ix : List Nat) : List KBlock :=
  let kw := w.dims[1]
  let kh := w.dims[2]
  let cin := x.dims[0]
  (List.range (kw * kh * w.dims[3])).flatMap (fun tap =>
    let kx := tap % kw
    let ky := tap / kw % kh
    let kt := tap / (kw * kh)
    let rw := s.storedRow v w [kx, ky, kt, ix.headD 0]
    match convPos body 0 (ix.getD 1 0) kx x.dims[1], convPos body 1 (ix.getD 2 0) ky x.dims[2],
        convPos body 2 (ix.getD 3 0) kt x.dims[3] with
    | some px, some py, some pt => fedBlocks (s.storedRow v x [px, py, pt, ix.getD 4 0]) rw
    | _, _, _ => (pieces 32 (List.replicate cin (Val.zero, Val.zero))).map (fun p => { pairs := p, ea := 127, eb := 127, pad := true }))

/-- The work of CONV3D (R239, R242). -/
def State.convWork (s : State) (v : Port3) (l : Live) : Work :=
  let body := l.bytes.drop 16
  let h := header l.bytes
  let x := l.descs.getD 0 Desc.none
  let w := l.descs.getD 1 Desc.none
  let y := l.descs.getD 2 Desc.none
  let aux := l.descs.drop 3
  let c := chainOf h.chain
  let p := l.split ((gemmPath c body x w).getD .block)
  let up := (c.desc aux .up).getD w
  s.matrixWork v l h.chain x w y aux x.format (fun _ ix => s.convBlocks v body x w ix) (fun _ ix => s.convBlocks v body x up ix) p

/-- CONV3D (R239). -/
def execConv3d (d : Die) (q : QIdx) (s : State) : Host.Outcome State Fault Refusal :=
  .next (s.runWith d q 0x11 (fun s l => s.convWork (viewOf (.die d) q) l))

/-! ### What step 4 computes of a matrix command's steps (R208, R223, R236) -/

/-- The taps and the k-values of one tap of a GEMM or CONV3D, and its output tiles of 16 × 16, which a chain with a second product needs
twice. -/
def Live.matrixSize (l : Live) : Nat × Nat × Nat :=
  let g (i : Nat) := l.descs.getD i Desc.none
  let o := g 2
  let conv := decide ((header l.bytes).opcode = 0x11)
  let up := (chainOf (header l.bytes).chain).roles.contains .up
  let tiles := if conv then ceilDiv o.dims[0] 16 * ceilDiv o.rows 16
    else ceilDiv o.dims[0] 16 * ceilDiv o.dims[1] 16 * max 1 o.dims[2]
  (if conv then (g 1).dims[1] * (g 1).dims[2] * (g 1).dims[3] else 1, (g 0).dims[0], if up then 2 * tiles else tiles)

/-- The widest operand as it is fed has 16 bits, so that a cell makes one k-step per dc (R223, R246). -/
def Live.rateOne (l : Live) : Bool :=
  let c := chainOf (header l.bytes).chain
  let f := (feedOf c (l.bytes.drop 16) (l.descs.getD 0 Desc.none)).1
  let b := (l.descs.getD 1 Desc.none).format
  decide (f = 0x02 ∨ f = 0x03 ∨ b = 0x02 ∨ b = 0x03)

/-- Extra steps of a GEMM or CONV3D: none in DETERMINISTIC, in compensated mode or above one k-step per dc (R208, R232, R236). -/
def Live.matrixSplits (l : Live) : Nat :=
  let body := l.bytes.drop 16
  if bodyDet body || bodyComp body || !l.rateOne then 0
  else
    let (taps, kin, tiles) := l.matrixSize
    l.tileSplits (chunkLens taps kin (l.split .sequential).log) tiles

/-- The fewest steps of a GEMM or CONV3D: the k-blocks of its longest chunk (R236). -/
def Live.matrixSteps (l : Live) : Nat :=
  let (taps, kin, _) := l.matrixSize
  ((chunkLens taps kin (l.split .sequential).log).map (fun c => (kBlocks c).length)).foldl max 1

end Sys2Proof.Machine
end

