-- ==== Sys2Proof/Machine/Frames.lean ====
section
/-!
DEFINITION. The managed regions of a die (R158-R160, R298-R305): the three regions, the page-frame table, the counters and
watermarks, allocation and the deferred release of frames. Page data moves in Page.lean.
-/
namespace Sys2Proof.Machine

open Sys2Proof

/-! ### The page-frame table (R300) -/

/-- An entry of the page-frame table. -/
structure Frame where
  refs : Nat
  pins : Nat
  stamp : Nat
  span : Nat
  seq : Nat
  page : Nat
  deriving DecidableEq, Repr

def Frame.free : Frame := { refs := 0, pins := 0, stamp := 0, span := 0, seq := 0, page := 0 }

/-- A unit of a span other than its first. -/
def Frame.rest : Frame := { Frame.free with refs := 0xFFFF }

/-- Device address of the table entry of a unit. -/
def DieSt.frameAddr (x : DieSt) (u : Nat) : Nat := x.pageBlk[4].toNat + field x.pageBlk[5] 15 0 * 2 ^ 32 + 16 * u

/-- The table entry of unit u. -/
def State.frame (s : State) (d : Die) (u : Nat) : Frame :=
  let bs := s.loadN (.die d) false (s.dies[d].frameAddr u) 16
  { refs := leAt bs 0 2, pins := leAt bs 2 2, stamp := leAt bs 4 2, span := leAt bs 6 2, seq := leAt bs 8 2,
    page := leAt bs 12 4 }

/-- The table entry of unit u replaced. -/
def State.setFrame' (s : State) (d : Die) (u : Nat) (f : Frame) : State :=
  s.storeN (.die d) false (s.dies[d].frameAddr u)
    (leBytes 2 f.refs ++ leBytes 2 f.pins ++ leBytes 2 f.stamp ++ leBytes 2 f.span ++ leBytes 2 f.seq ++ leBytes 2 0
      ++ leBytes 4 f.page) false

/-! ### Counters and watermarks (R159, R160, R301) -/

/-- MEM_POOL_USED.used becomes n; spill_active and its alerts follow the watermarks (R159); high_stuck where no unpinned
unit remains (R160). -/
def State.setUsed (s : State) (d : Die) (n : Nat) : State :=
  let m := s.dies[d].memBlk
  let w := setField m[11] 19 0 n
  let active := bitAt w 31
  let (high, low) := s.watermark d
  let put (s : State) (w : Word) := s.modDie d (fun x => { x with memBlk := x.memBlk.set 11 w })
  let s := if !active && decide (high ≤ n * 256) && decide (0 < n) then (put s (setBit w 31 true)).memAlert d 0
    else if active && decide (n * 256 ≤ low) then (put s (setBit w 31 false)).memAlert d 1
    else put s w
  if bitAt s.dies[d].memBlk[11] 31 && decide (n ≤ field s.dies[d].memBlk[12] 19 0) then s.memAlert d 2 else s

/-- Units counted in region r rise by a and fall by b. -/
def State.countUnits (s : State) (d : Die) (r a b : Nat) : State :=
  if r = 0 then s.setUsed d (field s.dies[d].memBlk[11] 19 0 + a - b)
  else if r = 1 then s.modDie d (fun x => { x with pageBlk := x.pageBlk.set 11 (setField x.pageBlk[11] 24 0 (field x.pageBlk[11] 24 0 + a - b)) })
  else s.modDie d (fun x => { x with pageBlk := x.pageBlk.set 12 (BitVec.ofNat 32 (x.pageBlk[12].toNat + a - b)) })

/-- Pinned pool units rise by a and fall by b. -/
def State.countPinned (s : State) (d : Die) (a b : Nat) : State :=
  let n := field s.dies[d].memBlk[12] 19 0 + a - b
  let s := s.modDie d (fun x => { x with memBlk := x.memBlk.set 12 (setField x.memBlk[12] 19 0 n) })
  if bitAt s.dies[d].memBlk[11] 31 && decide (field s.dies[d].memBlk[11] 19 0 ≤ n) then s.memAlert d 2 else s

/-- A pin of n more units would pass MEM_PIN_MAX/256 of the pool (R160). -/
def State.pinTooMuch (s : State) (d : Die) (n : Nat) : Bool :=
  let m := s.dies[d].memBlk
  decide (field m[13] 7 0 * (field m[9] 10 0 * 512) < (field m[12] 19 0 + n) * 256)

/-! ### Allocation (R301) and release (R305) -/

/-- Unit u is free: no page refers to it and no release of it is deferred. -/
def State.unitFree (s : State) (d : Die) (u : Nat) : Bool :=
  decide ((s.frame d u).refs = 0) && !(s.dies[d].page.deferred.any (fun e => decide (e.1 ≤ u) && decide (u < e.1 + e.2.1)))

/-- The lowest run of k free units among units u .. u + n - 1; `run` units before u are free. -/
def State.findRun (s : State) (d : Die) (k : Nat) : Nat → Nat → Nat → Option Nat
  | 0, _, _ => none
  | n + 1, u, run =>
    if s.unitFree d u then
      if k ≤ run + 1 then some (u + 1 - k) else s.findRun d k n (u + 1) (run + 1)
    else s.findRun d k n (u + 1) 0

/-- The lowest free run of k units in region r, as the first unit's index (R301). -/
def State.findSpan (s : State) (d : Die) (r k : Nat) : Option Nat :=
  let g := s.dies[d].region r
  if k = 0 then none else s.findRun d k g.units g.first 0

/-- Units u + 1 .. u + n are marked as the rest of a span, or free. -/
def State.markRest (s : State) (d : Die) (u : Nat) (f : Frame) : Nat → State
  | 0 => s
  | n + 1 => (s.markRest d u f n).setFrame' d (u + n + 1) f

/-- A span of k units at unit u is allocated with its first entry (R300, R301). -/
def State.takeSpan (s : State) (d : Die) (u k : Nat) (f : Frame) : State :=
  let s := (s.markRest d u Frame.rest (k - 1)).setFrame' d u { f with span := k }
  s.countUnits d (s.dies[d].regionOf u) k 0

/-- A span is free from now on (R305). -/
def State.freeSpan (s : State) (d : Die) (u k : Nat) : State :=
  let r := s.dies[d].regionOf u
  ((s.markRest d u Frame.free (k - 1)).setFrame' d u Frame.free).countUnits d r 0 k

/-- COMPUTE commands of die d that have passed step 4 and have not ended (R305). -/
def State.passedStep4 (s : State) (d : Die) : List (Nat × Word) :=
  (List.finRange 16).flatMap fun i : Fin 16 =>
    let q : QIdx := Fin.ofNat 32 i.val
    (s.dies[d].queues[q].live.filter (fun l => match l.phase with
      | .eligible | .running | .preempted => true
      | _ => false)).map (fun l => (i.val, l.pos))

/-- PG_STATUS.deferred counts the units that wait for release (R305). -/
def State.countDeferred (s : State) (d : Die) : State :=
  let n := (s.dies[d].page.deferred.map (fun e => e.2.1)).sum
  s.modDie d (fun x => { x with pageBlk := x.pageBlk.set 1 (setField x.pageBlk[1] 19 0 n) })

/-- A frame whose references are gone, or that a move vacated, is released at once or when the COMPUTE commands that have passed
step 4 have ended (R305). -/
def State.dropSpan (s : State) (d : Die) (u k : Nat) : State :=
  let waits := s.passedStep4 d
  let s := s.setFrame' d u { (s.frame d u) with refs := 0, pins := 0 }
  if waits.isEmpty then s.freeSpan d u k
  else (s.modDie d (fun x => { x with page := { x.page with deferred := x.page.deferred ++ [(u, k, waits)] } })).countDeferred d

/-- Deferred frames whose commands have all ended are released (R305). -/
def State.releaseFrames (s : State) (d : Die) : State :=
  let now := s.passedStep4 d
  let entries := s.dies[d].page.deferred.map (fun e => (e.1, e.2.1, e.2.2.filter now.contains))
  if entries.isEmpty then s
  else
    let s := s.modDie d (fun x => { x with page := { x.page with deferred := entries.filter (fun e => !e.2.2.isEmpty) } })
    let s := (entries.filter (fun e => e.2.2.isEmpty)).foldl (fun s e => s.freeSpan d e.1 e.2.1) s
    s.countDeferred d

end Sys2Proof.Machine
end

