-- ==== Sys2Proof/Machine/Paging.lean ====
section
/-!
DEFINITION. Paged caches (R294-R309): sequence descriptors, page-table entries, page layout, and the shared operations of the PAGE
engine, the fill path and the page walker: moving a page, copying it on write, making room by spilling, pinning.
-/
namespace Sys2Proof.Machine

open Sys2Proof

/-! ### Sequence descriptors (R295, R296) -/

/-- A sequence descriptor. -/
structure Seq where
  ptBase : Nat
  length : Nat
  maxPages : Nat
  order : Nat
  format : Nat
  heads : Nat
  dimCode : Nat
  flags : Nat
  rank : Nat
  uk : Nat
  uv : Nat
  gridW : Nat
  gridH : Nat
  gCount : Nat
  shBase : Nat
  shPt : Nat
  deriving DecidableEq, Repr

def readSeq (bs : List Byte) : Seq :=
  { ptBase := leAt bs 0 8, length := leAt bs 8 4, maxPages := leAt bs 12 4, order := byteAt bs 16, format := byteAt bs 17,
    heads := byteAt bs 18, dimCode := byteAt bs 19, flags := byteAt bs 20, rank := byteAt bs 21, uk := leAt bs 22 2,
    uv := leAt bs 24 2, gridW := leAt bs 26 2, gridH := leAt bs 28 2, gCount := leAt bs 30 2, shBase := leAt bs 32 8,
    shPt := leAt bs 40 8 }

/-- Tokens of a page (R295). -/
def Seq.page (q : Seq) : Nat := 16 * 2 ^ q.order
/-- Head dimension. -/
def Seq.dim (q : Seq) : Nat := 64 * 2 ^ q.dimCode
/-- Latent rank in values. -/
def Seq.latent (q : Seq) : Nat := 64 * q.rank
/-- Pages below this index are mapped or evicted (R299). -/
def Seq.pages (q : Seq) : Nat := ceilDiv q.length q.page
/-- A miss fails the command (R309). -/
def Seq.missFail (q : Seq) : Bool := q.flags.testBit 1

/-- Device address of sequence descriptor n. -/
def DieSt.seqAddr (x : DieSt) (n : Nat) : Nat := x.pageBlk[2].toNat + field x.pageBlk[3] 15 0 * 2 ^ 32 + 64 * n

/-- The 64 bytes of sequence descriptor n. -/
def State.seqBytes (s : State) (d : Die) (n : Nat) : List Byte := s.loadN (.die d) false (s.dies[d].seqAddr n) 64

/-- PG_CTRL.enable (R296). -/
def State.paged (s : State) (d : Die) : Bool := bitAt s.dies[d].pageBlk[0] 0

/-- A sequence descriptor passes R296, but for its expansion matrices, which are judged with their tensor descriptors. -/
def seqOk (bs : List Byte) : Bool :=
  let q := readSeq bs
  q.flags.testBit 0 && decide (q.flags < 4) && decide (leAt bs 48 16 = 0)
    && decide (isLocal q.ptBase ∧ q.ptBase % 8 = 0 ∧ isLocal (q.ptBase + 8 * q.maxPages - 1))
    && decide (1 ≤ q.maxPages ∧ q.maxPages ≤ 2 ^ 20) && decide (q.order ≤ 6) && decide (q.format ≤ 1)
    && decide (1 ≤ q.heads ∧ q.heads ≤ 16) && decide (q.dimCode ≤ 2) && decide (q.rank ≤ 8)
    && (decide (q.rank ≠ 0) || decide (q.uk = 0xFFFF ∧ q.uv = 0xFFFF))
    && decide (1 ≤ q.gridW ∧ 1 ≤ q.gridH) && decide (q.gCount ≤ 256) && decide (q.length ≤ q.maxPages * q.page)
    && decide (q.shBase < 2 ^ 48 ∧ q.shPt < 2 ^ 48)

/-- An expansion matrix fits its sequence (R296). -/
def Seq.matrixOk (q : Seq) (d : Desc) : Bool := decide (d.format = 0x02) && !d.mx && d.hasDims [q.latent, q.dim, q.heads]

/-! ### Page-table entries (R298) -/

/-- A page-table entry. -/
structure Pte where
  tier : Nat
  sealed : Bool
  shadowed : Bool
  latent : Bool
  pinned : Bool
  busy : Bool
  frame : Nat
  mass : Nat
  deriving DecidableEq, Repr

/-- The entry of an unmapped or evicted page. -/
def Pte.none : Pte :=
  { tier := 0, sealed := false, shadowed := false, latent := false, pinned := false, busy := false, frame := 0, mass := 0 }

def Pte.word (e : Pte) : Nat :=
  e.tier + 4 * b2n e.sealed + 8 * b2n e.shadowed + 16 * b2n e.latent + 32 * b2n e.pinned + 64 * b2n e.busy
    + e.frame / 4096 * 256 + e.mass * 2 ^ 48

def readPte (v : Nat) : Pte :=
  { tier := v % 4, sealed := v.testBit 2, shadowed := v.testBit 3, latent := v.testBit 4, pinned := v.testBit 5,
    busy := v.testBit 6, frame := v / 256 % 2 ^ 36 * 4096, mass := v / 2 ^ 48 % 65536 }

/-- Device address of the entry of page i. -/
def Seq.pteAddr (q : Seq) (i : Nat) : Nat := q.ptBase + 8 * i

/-- The entry of page i. -/
def State.pte (s : State) (d : Die) (q : Seq) (i : Nat) : Pte := readPte (leNat (s.loadN (.die d) false (q.pteAddr i) 8))

/-- The entry of page i replaced whole (R302). -/
def State.setPte (s : State) (d : Die) (q : Seq) (i : Nat) (e : Pte) : State :=
  s.storeN (.die d) false (q.pteAddr i) (leBytes 8 e.word) false

/-! ### Page layout (R298) -/

/-- Bytes of one element of a page. -/
def Seq.elemBytes (q : Seq) : Nat := if q.format = 1 then 1 else 2

/-- Bytes of a page. -/
def Seq.pageBytes (q : Seq) (latent : Bool) : Nat :=
  if latent then 2 * q.page * q.latent
  else 2 * q.heads * q.page * q.dim * q.elemBytes + (if q.format = 1 then 2 * q.heads * q.page * q.dim / 32 else 0)

/-- Units of a page. -/
def Seq.span (q : Seq) (latent : Bool) : Nat := ceilDiv (q.pageBytes latent) 4096

/-- Offset of the K (or V) row of a head and token in a page. -/
def Seq.rowOff (q : Seq) (isV : Bool) (h t : Nat) : Nat :=
  ((b2n isV * q.heads + h) * q.page + t) * q.dim * q.elemBytes

/-- Offset of the scales of that row (format 1). -/
def Seq.scaleOff (q : Seq) (isV : Bool) (h t : Nat) : Nat :=
  2 * q.heads * q.page * q.dim + ((b2n isV * q.heads + h) * q.page + t) * (q.dim / 32)

/-- Offset of the latent vector of a token. -/
def Seq.latOff (q : Seq) (t : Nat) : Nat := t * q.latent * 2

/-! ### The outcome of page work -/

/-- A page operation in progress: the state, its status (0 while it goes on) with a location, and two result counts. -/
structure Pg where
  s : State
  st : Nat
  loc : Word
  n : Nat
  k : Nat

abbrev stPageMiss : Nat := 0x301
abbrev stPinRefused : Nat := 0x302
abbrev stPoolFull : Nat := 0x303
abbrev stRefcountSat : Nat := 0x304
abbrev stLatent : Nat := 0x305
abbrev stSealed : Nat := 0x306
abbrev stBadSeq : Nat := 0x307
/-- A spill found no candidate, or no room in its target; neither is a command status (R307). -/
abbrev stNoCandidate : Nat := 0x10000
abbrev stNoRoom : Nat := 0x10001

def Pg.ok (s : State) : Pg := { s := s, st := 0, loc := 0, n := 0, k := 0 }
def Pg.fail (s : State) (st : Nat) : Pg := { s := s, st := st, loc := 0, n := 0, k := 0 }

/-- The next part of the work, unless it has failed; the counts add up. -/
def Pg.andThen (r : Pg) (f : State → Pg) : Pg :=
  if r.st ≠ 0 then r else let x := f r.s; { x with n := r.n + x.n, k := r.k + x.k }

/-- The work on each element in turn, until one fails. -/
def Pg.each {α : Type} (s : State) (xs : List α) (f : State → α → Pg) : Pg :=
  xs.foldl (fun (r : Pg) x => r.andThen (fun s => f s x)) (Pg.ok s)

/-- A change that cannot fail. -/
def Pg.map (r : Pg) (f : State → State) : Pg := r.andThen (fun s => Pg.ok (f s))

/-- A failed access ends the work with its status (R146). -/
def Pg.mem (s : State) (d : Die) (who : Requester) (isWrite : Bool) (f : MemFail) : Pg :=
  let (loc, s) := s.raiseMem (.die d) true who isWrite f
  { s := s, st := f.status, loc := loc, n := 0, k := 0 }

/-- The view of the PAGE engine and the fill path, which reach twin windows (R140). -/
def pageView (d : Die) : Port3 := { fn := .die d, tw := true }

/-- Table entries that the work is about to use can be read. -/
def State.checkRead (s : State) (d : Die) (who : Requester) (spans : List (Nat × Nat)) : Pg :=
  match s.readFail (pageView d) spans with
  | some f => Pg.mem s d who false f
  | none => Pg.ok s

/-- n bytes copied from one device address to another; poisoned data is written poisoned and ends the work with MEM_UE (R151). -/
def State.copyRun (s : State) (d : Die) (who : Requester) (src dst n : Nat) : Pg :=
  let v := pageView d
  match s.runWriteFail v src n with
  | some f => Pg.mem s d who false f
  | none => match s.runWriteFail v dst n with
    | some f => Pg.mem s d who true f
    | none =>
      let bad := s.poisonRead v [(src, n)]
      let e : Emit := { addr := dst, data := s.bytesAt v src n,
                        bad := if bad.isSome then (List.range n).map (fun i => s.anyPoison v.fn v.tw (src + i) 1) else [] }
      let s := s.emit v e
      let s := s.modDie d (fun x => { x with page := { x.page with moved := x.page.moved ++ [(src, dst, n)] } })
      match bad with
      | some f => Pg.mem s d who false f
      | none => Pg.ok s

/-! ### References and pins (R300, R301, R304, R305) -/

/-- The entry that refers to a frame, sought through the valid sequences in order: where exactly one is left, it owns the
frame (R300). -/
def State.findOwner (s : State) (d : Die) (frame : Nat) : Option (Nat × Nat) :=
  (List.range 4096).findSome? (fun n =>
    let bs := s.seqBytes d n
    let q := readSeq bs
    if seqOk bs then
      ((List.range q.pages).find? (fun i =>
        let e := s.pte d q i
        decide (e.tier ≠ 0) && decide (e.frame = frame))).map (fun i => (n, i))
    else none)

/-- One reference to the frame at unit u is gone, and its pin with it; the frame is released when it was the last (R304, R305). -/
def State.unref (s : State) (d : Die) (u : Nat) (pinned : Bool) : State :=
  let f := s.frame d u
  let pins := f.pins - b2n pinned
  let s := if f.pins ≠ 0 ∧ pins = 0 ∧ s.dies[d].regionOf u = 0 then s.countPinned d 0 f.span else s
  if f.refs ≤ 1 then s.dropSpan d u f.span
  else
    let g := { f with refs := f.refs - 1, pins := pins }
    let g := if g.refs = 1 then
        match s.findOwner d (s.dies[d].unitAddr u) with
        | some (n, i) => { g with seq := n, page := i }
        | none => g
      else g
    s.setFrame' d u g

/-- A span of k units at unit u becomes the frame of page i of sequence n. -/
def State.adoptSpan (s : State) (d : Die) (u k n i : Nat) (pinned : Bool) (stamp : Nat) : State :=
  let s := s.takeSpan d u k { Frame.free with refs := 1, pins := b2n pinned, stamp := stamp, seq := n, page := i }
  if pinned && decide (s.dies[d].regionOf u = 0) then s.countPinned d k 0 else s

/-- PG_STAMP (R306). -/
def State.stamp (s : State) (d : Die) : Nat := field s.dies[d].pageBlk[13] 15 0

/-- The first unit of an entry's frame. -/
def State.unitOfPte (s : State) (d : Die) (e : Pte) : Nat := s.dies[d].unitOfAddr e.tier e.frame

/-- Page i of sequence n moves into region r (R307, R321): into the lowest free run, with its stamp and flags kept; the old frame
is released as R305 provides. -/
def State.movePage (s : State) (d : Die) (who : Requester) (n : Nat) (q : Seq) (i r : Nat) : Pg :=
  let e := s.pte d q i
  let k := q.span e.latent
  let u0 := s.unitOfPte d e
  match s.findSpan d r k with
  | none => Pg.fail s stNoRoom
  | some u =>
    let a := s.dies[d].unitAddr u
    ((s.copyRun d who e.frame a (k * 4096)).map (fun s =>
      let s := s.adoptSpan d u k n i e.pinned (s.frame d u0).stamp
      let s := s.setPte d q i { e with tier := r + 1, frame := a }
      s.unref d u0 e.pinned)).andThen (fun s => { Pg.ok s with n := 1, k := k })

/-! ### Spill candidates (R307) -/

/-- The entry of unit u makes a candidate of a spill from its region: (age, unit, sequence number, sequence, page). -/
def State.candidateAt (s : State) (d : Die) (only : Option Nat) (u : Nat) : Option (Nat × Nat × Nat × Seq × Nat) :=
  let f := s.frame d u
  let q := readSeq (s.seqBytes d f.seq)
  if f.refs = 1 ∧ f.pins = 0 ∧ !(s.pte d q f.page).busy ∧ (only.isNone ∨ only = some f.seq)
      ∧ !(s.dies[d].page.deferred.any (fun x => decide (x.1 = u))) then
    some ((s.stamp d + 65536 - f.stamp) % 65536, u, f.seq, q, f.page)
  else none

/-- The candidate of greatest age in region r, ties going to the lowest unit. -/
def State.spillCandidate (s : State) (d : Die) (only : Option Nat) (r : Nat) : Option (Nat × Nat × Nat × Seq × Nat) :=
  let g := s.dies[d].region r
  (List.range g.units).foldl (fun (best : Option (Nat × Nat × Nat × Seq × Nat)) i =>
    match s.candidateAt d only (g.first + i), best with
    | some c, some b => if b.1 < c.1 then some c else some b
    | some c, none => some c
    | none, b => b) none

/-- One page is spilled from a region to a lower one (R307). A target without room sets t1_full or t2_full. -/
def State.spillOne (s : State) (d : Die) (who : Requester) (only : Option Nat) (from' to' : Nat) : Pg :=
  if !s.paged d then Pg.fail s stNoCandidate
  else match s.spillCandidate d only from' with
    | none => Pg.fail s stNoCandidate
    | some (_, _, n, q, i) =>
      let r := s.movePage d who n q i to'
      if r.st = stNoRoom then { r with s := r.s.pageAlert d (if to' = 1 then 1 else 2) } else r

/-- Tier 1 pages go to tier 2 until the next pool candidate has room in tier 1, or nothing more moves (R308). -/
def State.clearTier1 (s : State) (d : Die) (who : Requester) (k : Nat) : Nat → Pg
  | 0 => Pg.ok s
  | fuel + 1 =>
    if (s.findSpan d 1 k).isSome then Pg.ok s
    else (s.spillOne d who none 1 2).andThen (fun s => s.clearTier1 d who k fuel)

/-- One page leaves the pool for tier 1, where pages first make room by going to tier 2 if that is in use (R308); a memory fault of theirs
ends the work too. -/
def State.spillPool (s : State) (d : Die) (who : Requester) : Pg :=
  match s.spillCandidate d none 0 with
  | none => Pg.fail s stNoCandidate
  | some (_, u, _, _, _) =>
    let k := (s.frame d u).span
    let r := if bitAt s.dies[d].pageBlk[0] 2 then s.clearTier1 d who k (s.dies[d].region 1).units else Pg.ok s
    if r.st ≠ 0 ∧ r.st ≠ stNoCandidate ∧ r.st ≠ stNoRoom then r else r.s.spillOne d who none 0 1

/-- The lowest run of k pool units, after spilling as far as it takes (R304, R309). -/
def State.allocPool (s : State) (d : Die) (who : Requester) (k : Nat) : Nat → Pg
  | 0 => Pg.fail s stPoolFull
  | fuel + 1 =>
    match s.findSpan d 0 k with
    | some u => { Pg.ok s with n := u }
    | none =>
      let r := s.spillPool d who
      if r.st = stNoCandidate ∨ r.st = stNoRoom then Pg.fail r.s stPoolFull
      else if r.st ≠ 0 then r
      else r.s.allocPool d who k fuel

/-- Room for k units in the pool: the first unit is the count n of the answer. -/
def State.poolRoom (s : State) (d : Die) (who : Requester) (k : Nat) : Pg :=
  s.allocPool d who k ((s.dies[d].region 0).units + 1)

/-- A mapped page that is not in the pool moves there (R321); n counts it. -/
def State.bring (s : State) (d : Die) (who : Requester) (n : Nat) (q : Seq) (i : Nat) : Pg :=
  let e := s.pte d q i
  if e.tier ≤ 1 then Pg.ok s
  else
    let k := q.span e.latent
    if e.pinned && s.pinTooMuch d k then Pg.fail (s.memAlert d 3) stPinRefused
    else
      let r := s.poolRoom d who k
      if r.st ≠ 0 then { r with n := 0 }
      else { r.s.movePage d who n q i 0 with k := 0 }

/-- The pinned flag of page i set or cleared (R160, R321); k counts a change. -/
def State.pinPage (s : State) (d : Die) (q : Seq) (i : Nat) (on : Bool) : Pg :=
  let e := s.pte d q i
  if e.tier = 0 ∨ e.pinned = on then Pg.ok s
  else
    let u := s.unitOfPte d e
    let f := s.frame d u
    if on ∧ f.pins = 0 ∧ s.pinTooMuch d f.span then Pg.fail (s.memAlert d 3) stPinRefused
    else
      let pins := if on then f.pins + 1 else f.pins - 1
      let s := s.setFrame' d u { f with pins := pins }
      let s := s.setPte d q i { e with pinned := on }
      let s := if s.dies[d].regionOf u ≠ 0 then s
        else if on ∧ f.pins = 0 then s.countPinned d f.span 0
        else if !on ∧ pins = 0 ∧ f.pins ≠ 0 then s.countPinned d 0 f.span else s
      { Pg.ok s with k := 1 }

/-- A private copy of page i in the pool (R304, R320): `write` fills the new frame, given the old frame's address and the new
one's; the new entry is `entry` with the new frame; the old frame loses a reference. -/
def State.copyPage (s : State) (d : Die) (who : Requester) (n : Nat) (q : Seq) (i : Nat) (write : State → Nat → Nat → Pg)
    (entry : Pte → Pte) : Pg :=
  let e := s.pte d q i
  let k := q.span e.latent
  if e.pinned && s.pinTooMuch d k then Pg.fail (s.memAlert d 3) stPinRefused
  else
    let r := s.poolRoom d who k
    if r.st ≠ 0 then { r with n := 0 }
    else
      let u := r.n
      let s := r.s
      -- making room may have moved the page itself
      let e := s.pte d q i
      let u0 := s.unitOfPte d e
      let a := s.dies[d].unitAddr u
      ((write s e.frame a).map (fun s =>
        let s := s.adoptSpan d u k n i e.pinned (s.stamp d)
        let s := s.setPte d q i { entry e with tier := 1, frame := a }
        s.unref d u0 e.pinned)).andThen (fun s => Pg.ok s)

/-! ### Visibility to a box (R272, R310, R321) -/

/-- A query box with its window (R317). -/
structure Box where
  f0 : Nat
  f1 : Nat
  y0 : Nat
  y1 : Nat
  x0 : Nat
  x1 : Nat
  dt : Nat
  dy : Nat
  dx : Nat
  deriving DecidableEq, Repr

/-- The box of a PREFETCH or EVICT body (R317). -/
def boxOf (body : List Byte) : Box :=
  let g (i : Nat) := leAt body (12 + 2 * i) 2
  { f0 := g 0, f1 := g 1, y0 := g 2, y1 := g 3, x0 := g 4, x1 := g 5, dt := g 6, dy := g 7, dx := g 8 }

/-- A box with its ranges in order. -/
def Box.ok (b : Box) : Bool := decide (b.f0 ≤ b.f1 ∧ b.y0 ≤ b.y1 ∧ b.x0 ≤ b.x1)

/-- Place p lies within w of the range lo..hi; 0x3FF leaves the axis unbounded (R272). -/
def nearCoord (p lo hi w : Nat) : Bool := decide (w = 0x3FF) || (decide (lo ≤ p + w) && decide (p ≤ hi + w))

/-- Token j of a sequence is global, or a grid key visible to a query of the box with window on and causality off. -/
def Box.sees (b : Box) (q : Seq) (j : Nat) : Bool :=
  if j < q.gCount then true
  else
    let i := j - q.gCount
    let hw := q.gridH * q.gridW
    nearCoord (i / hw) b.f0 b.f1 b.dt && nearCoord (i % hw / q.gridW) b.y0 b.y1 b.dy && nearCoord (i % q.gridW) b.x0 b.x1 b.dx

/-- The stored tokens of page i. -/
def Seq.tokens (q : Seq) (i : Nat) : List Nat :=
  ((List.range q.page).map (fun t => i * q.page + t)).filter (fun j => decide (j < q.length))

/-- Page i holds a global token or a key that the box sees. -/
def Box.selects (b : Box) (q : Seq) (i : Nat) : Bool := (q.tokens i).any (b.sees q)

end Sys2Proof.Machine
end

