-- ==== Sys2Proof/Machine/Attention.lean ====
section
/-!
DEFINITION. Heron (R266-R293): the operands of ATTEND and ATTEND_BWD, visibility, rotation, feeds, the one-pass recurrence with its
split over keys, attention mass, page misses, and the gradients.
-/
namespace Sys2Proof.Machine

open Sys2Proof

/-! ### Operands (R266, R287, R288, R290) -/

/-- The parameter block (R288). -/
structure AttPar where
  sm : Nat
  gridW : Nat
  gridH : Nat
  sec : List Nat
  dt : Nat
  dy : Nat
  dx : Nat
  window : Bool
  causal : Bool
  deriving DecidableEq, Repr

def attPar (bs : List Byte) : AttPar :=
  let w (i : Nat) := leAt bs (4 * i) 4
  { sm := w 0, gridW := w 1 % 65536, gridH := w 1 / 65536, sec := [w 2 % 256, w 2 / 256 % 256, w 2 / 65536 % 256],
    dt := w 3 % 1024, dy := w 3 / 1024 % 1024, dx := w 3 / 1048576 % 1024, window := (w 3).testBit 30, causal := (w 3).testBit 31 }

/-- The block's rules (R275, R288); dim is the head dimension. -/
def attParOk (bs : List Byte) (dim : Nat) : Bool :=
  let p := attPar bs
  let sm := ofFp32 p.sm
  (decide (p.sm = 0) || (!sm.nonFinite && !sm.isNeg && !sm.isZero)) && decide (1 ≤ p.gridW ∧ 1 ≤ p.gridH)
    && p.sec.all (fun x => decide (x % 2 = 0)) && (decide (p.sec.sum = dim) || decide (p.sec.sum = 0))
    && decide (leAt bs 8 4 < 2 ^ 24) && decide (leAt bs 16 48 = 0)

/-- Rotation is on (R275). -/
def AttPar.rotates (p : AttPar) : Bool := decide (p.sec.sum ≠ 0)

/-- An entry of the length table (R266, R314): its number in the table, its bucket (none where ragged), and its values. -/
structure Entry where
  e : Nat
  bucket : Option Nat
  seq : Nat
  qStart : Nat
  qCount : Nat
  kv : Nat
  deriving DecidableEq, Repr

/-- The entries of a length table from its codes in dimension order, bucket by bucket from the highest, else ascending (R315). -/
def entriesOf (lens : Desc) (codes : List Nat) : List Entry :=
  let slots := lens.dims[1]
  let all := (pieces 4 codes).zipIdx.map (fun p =>
    { e := p.2, bucket := if lens.rank = 3 then some (p.2 / slots) else none, seq := p.1.getD 0 0, qStart := p.1.getD 1 0,
      qCount := p.1.getD 2 0, kv := p.1.getD 3 0 : Entry })
  let all := all.filter (fun x => decide (x.qCount ≠ 0))
  if lens.rank = 3 then (List.range lens.dims[2]).reverse.flatMap (fun b => all.filter (fun x => decide (x.bucket = some b))) else all

/-- An attention command as its body names it. -/
structure Att where
  q : Desc
  k : Desc
  v : Desc
  out : Desc
  stats : Desc
  qidx : Desc
  tpos : Desc
  freq : Desc
  par : AttPar
  entries : List Entry
  qidxCodes : List Nat
  train : Bool
  paged : Bool
  mass : Bool
  gLog : Nat
  qkFmt : Nat
  pvFmt : Nat
  split : Nat
  gCount : Nat
  latent : Bool
  /-- Index of the command's free values. -/
  choice : Nat
  deriving DecidableEq, Repr

/-- UINT32 codes kept as bytes. -/
def codes4 (bs : List Byte) : List Nat := (pieces 4 bs).map leNat

/-- What a live command noted at step 4 under a key. -/
def Live.note (l : Live) (k : Nat) : List Byte := ((l.notes.find? (fun p => p.1 == k)).map (·.2)).getD []

/-- The operands of an ATTEND (R287). Descriptors: q, k, v, out, lens, params, stats, qidx, tpos, freq. -/
def attendOf (l : Live) : Att :=
  let b := l.bytes.drop 16
  let g (i : Nat) := l.descs.getD i Desc.none
  { q := g 0, k := g 1, v := g 2, out := g 3, stats := g 6, qidx := g 7, tpos := g 8, freq := g 9, par := attPar (l.note 0),
    entries := entriesOf (g 4) (codes4 (l.note 1)), qidxCodes := codes4 (l.note 2), train := (byteAt b 20).testBit 0,
    paged := (byteAt b 20).testBit 1, mass := (byteAt b 20).testBit 2, gLog := byteAt b 21, qkFmt := byteAt b 22,
    pvFmt := byteAt b 23, split := byteAt b 24, gCount := leAt b 26 2, latent := decide ((header l.bytes).chain = 0x19),
    choice := l.choice }

/-- The operands of an ATTEND_BWD (R290). Descriptors: q, k, v, out, dout, lens, params, stats, qidx, tpos, freq, dq, dk, dv. -/
def attendBwdOf (l : Live) : Att :=
  let b := l.bytes.drop 16
  let g (i : Nat) := l.descs.getD i Desc.none
  { q := g 0, k := g 1, v := g 2, out := g 3, stats := g 7, qidx := g 8, tpos := g 9, freq := g 10, par := attPar (l.note 0),
    entries := entriesOf (g 5) (codes4 (l.note 1)), qidxCodes := codes4 (l.note 2), train := false, paged := false, mass := false,
    gLog := byteAt b 29, qkFmt := byteAt b 30, pvFmt := byteAt b 31, split := byteAt b 32, gCount := leAt b 34 2, latent := false,
    choice := l.choice }

/-- Head dimension, query heads, group size, KV heads (R267, R282). -/
def Att.dim (a : Att) : Nat := a.q.dims[0]
def Att.hq (a : Att) : Nat := a.q.dims[1]
def Att.group (a : Att) : Nat := 2 ^ a.gLog
def Att.hkv (a : Att) : Nat := if a.paged then a.hq / a.group else a.k.dims[1]

/-! ### Positions, visibility, rotation (R270-R276) -/

/-- A token index as global, or its frame, row and column (R270, R271). -/
def Att.place (a : Att) (idx : Int) : Option (Int × Int × Int) :=
  if idx < a.gCount then none
  else
    let i := idx - a.gCount
    let w : Int := a.par.gridW
    let hw : Int := a.par.gridH * a.par.gridW
    some (i / hw, i % hw / w, i % w)

/-- The token index of query q of an entry (R271). -/
def Att.queryIdx (a : Att) (x : Entry) (q : Nat) : Int :=
  if a.qidx.rank = 0 then (x.kv : Int) - x.qCount + q else (a.qidxCodes.getD (x.qStart + q) 0 : Nat)

/-- |a - b| ≤ w, or the axis is unbounded (R272). -/
def within (a b : Int) (w : Nat) : Bool := decide (w = 0x3FF) || decide ((a - b).natAbs ≤ w)

/-- Key j is visible to the query of index idx (R272). -/
def Att.sees (a : Att) (idx : Int) (j : Nat) : Bool :=
  match a.place j, a.place idx with
  | none, _ => true
  | _, none => true
  | some (fk, yk, xk), some (fq, yq, xq) =>
    (!a.par.window || (within fk fq a.par.dt && within yk yq a.par.dy && within xk xq a.par.dx))
      && (!a.par.causal || decide (fk ≤ fq))

/-- The axis of pair i: 0 time, 1 row, 2 column (R275). -/
def AttPar.axis (p : AttPar) (i : Nat) : Nat :=
  if 2 * i < p.sec.getD 0 0 then 0 else if 2 * i < p.sec.getD 0 0 + p.sec.getD 1 0 then 1 else 2

/-- The time position of frame f: tpos[f], or f. Beyond the tensor the value is open (assumption log 7). -/
def State.timePos (s : State) (v : Port3) (a : Att) (f : Int) : Val :=
  if a.tpos.rank = 0 then Val.ofInt f
  else if 0 ≤ f ∧ f < a.tpos.dims[0] then s.elemVal v a.tpos [f.toNat]
  else ofFp32 (Config.freeAt (Config.freeAt a.choice 1) f.natAbs)

/-- cos and sin of pair i at a place (R276). -/
def State.turn (s : State) (v : Port3) (a : Att) (pl : Int × Int × Int) (i : Nat) : Val × Val :=
  let ax := a.par.axis i
  let pos := if ax = 0 then s.timePos v a pl.1 else if ax = 1 then Val.ofInt pl.2.1 else Val.ofInt pl.2.2
  let th := fmul pos (s.elemVal v a.freq [i])
  (cos32 th, sin32 th)

/-- The pairs of a row. -/
def pairUp : List Val → List (Val × Val)
  | x :: y :: rest => (x, y) :: pairUp rest
  | _ => []

/-- A row rotated for the token of an index; global tokens are not rotated (R275, R276). -/
def State.rotate (s : State) (v : Port3) (a : Att) (idx : Int) (xs : List Val) : List Val :=
  match a.place idx with
  | none => xs
  | some pl =>
    if !a.par.rotates then xs
    else (pairUp xs).zipIdx.flatMap (fun p =>
      let (c, sn) := s.turn v a pl p.2
      let (x0, x1) := p.1
      [rne32 ((fmul x0 c).sub (fmul x1 sn)), rne32 ((fmul x0 sn).add (fmul x1 c))])

/-- A gradient row rotated back (R291). -/
def State.rotateBack (s : State) (v : Port3) (a : Att) (idx : Int) (xs : List Val) : List Val :=
  match a.place idx with
  | none => xs
  | some pl =>
    if !a.par.rotates then xs
    else (pairUp xs).zipIdx.flatMap (fun p =>
      let (c, sn) := s.turn v a pl p.2
      let (x0, x1) := p.1
      [rne32 ((fmul x0 c).add (fmul x1 sn)), rne32 ((fmul x1 c).sub (fmul x0 sn))])

/-! ### Keys (R285, R298, R313) -/

/-- Where an entry's keys lie: tensors in contiguous mode, a sequence with its expansion matrices in paged mode. -/
inductive Keys where
  | flat (e : Nat)
  | pages (seq : Seq) (uk uv : Desc)
  deriving DecidableEq, Repr

/-- The keys of an entry. -/
def Live.keysOf (l : Live) (a : Att) (x : Entry) : Keys :=
  if a.paged then
    let q := readSeq (l.note (0x1000 + x.seq))
    .pages q (readDesc (l.note (0x10000 + q.uk))) (readDesc (l.note (0x10000 + q.uv)))
  else .flat x.e

/-- The entry of the page that holds token j. -/
def State.pteOf (s : State) (d : Die) (q : Seq) (j : Nat) : Pte := s.pte d q (j / q.page)

/-- Token j is on an evicted page (R309). -/
def State.gone (s : State) (d : Die) (k : Keys) (j : Nat) : Bool :=
  match k with
  | .flat _ => false
  | .pages q _ _ => decide ((s.pteOf d q j).tier = 0)

/-- A page's row of K or V decoded: head h, token j. -/
def State.pageRow (s : State) (v : Port3) (q : Seq) (e : Pte) (isV : Bool) (h j : Nat) : List Val :=
  let t := j % q.page
  (List.range q.dim).map (fun i =>
    let c := leNat (s.bytesAt v (e.frame + q.rowOff isV h t + i * q.elemBytes) q.elemBytes)
    if q.format = 1 then scaled (leNat (s.bytesAt v (e.frame + q.scaleOff isV h t + i / 32) 1)) (decodeElem 0x04 true c)
    else decodeElem 0x02 false c)

/-- A latent token expanded for head h (R313). -/
def State.expandRow (s : State) (v : Port3) (q : Seq) (e : Pte) (m : Desc) (h j : Nat) : List Val :=
  let t := j % q.page
  let lat (i : Nat) : Val := decodeElem 0x02 false (leNat (s.bytesAt v (e.frame + q.latOff t + 2 * i) 2))
  (List.range q.dim).map (fun i =>
    let x := (List.range q.latent).foldl (fun (acc : Val) r => fadd acc ((lat r).mul (s.elemVal v m [r, i, h]))) Val.zero
    decodeElem 0x02 false (convert 0x02 false 0 1 x))

/-- The K or V row of token j for KV head h, decoded exactly. -/
def State.keyRow (s : State) (v : Port3) (d : Die) (a : Att) (k : Keys) (isV : Bool) (h j : Nat) : List Val :=
  match k with
  | .flat e =>
    let t := if isV then a.v else a.k
    (List.range a.dim).map (fun i => s.elemVal v t [i, h, j, e])
  | .pages q uk uv =>
    let p := s.pteOf d q j
    if p.latent then s.expandRow v q p (if isV then uv else uk) h j else s.pageRow v q p isV h j

/-! ### The recurrence (R277-R281) -/

/-- A feed of scores: BF16, or FP8_E4M3 with MX scales (R277). -/
def attFeed (fmt : Nat) (xs : List Val) : FedRow := if fmt = 1 then feedRow 0x04 true xs else feedRow 0x02 false xs

/-- The path of a feed (R227, R228). -/
def attPath (fmt : Nat) : Path := if fmt = 1 then .block else .sequential

/-- What a row sees: the number of keys, which are visible, the score of a key, and its V row decoded. -/
structure RowCtx where
  kv : Nat
  vis : Nat → Bool
  score : Nat → Val
  vRow : Nat → List Val
  pvFmt : Nat
  dim : Nat

/-- The running state of a row (R278). -/
structure RowState where
  m : Val
  l : Val
  o : List Val
  deriving DecidableEq, Repr

def RowState.start (dim : Nat) : RowState := { m := .inf true, l := Val.zero, o := List.replicate dim Val.zero }

/-- V of a half block in dimension i as fed: the scale byte and the element values (R277). Keys at or above kv enter as +0. -/
def RowCtx.vHalf (c : RowCtx) (j0 i : Nat) : Nat × List Val :=
  let vs := (List.range 32).map (fun t => if j0 + t < c.kv then (c.vRow (j0 + t)).getD i Val.zero else Val.zero)
  if c.pvFmt = 1 then let (sc, cs) := mxBlock 0x04 0 0 vs; (sc, cs.map (decodeElem 0x04 true))
  else (127, vs.map (fun x => decodeElem 0x02 false (convert 0x02 false 0 1 x)))

/-- P of a half block as fed: the scale byte and the element values, by visible key (R277). -/
def RowCtx.pHalf (c : RowCtx) (ps : List Val) : Nat × List Val :=
  if c.pvFmt = 1 then let (sc, cs) := mxBlock 0x04 0 0 ps; (sc, cs.map (decodeElem 0x04 true))
  else (127, ps.map (fun x => decodeElem 0x02 false (convert 0x02 false 0 1 x)))

/-- One block of 64 keys of a row (R278). -/
def RowCtx.block (c : RowCtx) (st : RowState) (b : Nat) : RowState :=
  let js (h : Nat) : List Nat := ((List.range 32).map (fun t => 64 * b + 32 * h + t)).filter c.vis
  if (js 0 ++ js 1).isEmpty then st
  else
    let mn := (js 0 ++ js 1).foldl (fun (m : Val) j => m.max (c.score j)) st.m
    let fed (h : Nat) : Nat × List (Nat × Val) :=
      let (sc, ps) := c.pHalf ((js h).map (fun j => exp2_32 (fsub (c.score j) mn)))
      (sc, (js h).zip ps)
    let halves := [fed 0, fed 1]
    let pAt (j : Nat) : Val :=
      (halves.findSome? (fun f => (f.2.find? (fun p => p.1 == j)).map (fun p => scaled f.1 p.2))).getD Val.zero
    let bsum := tree fadd Val.zero 6 ((List.range 64).map (fun t => pAt (64 * b + t)))
    let pv (i : Nat) : Val :=
      ((halves.zipIdx.filter (fun f => !f.1.2.isEmpty)).foldl (fun (acc : Accum) f =>
        let (sv, vs) := c.vHalf (64 * b + 32 * f.2) i
        KBlock.join (attPath c.pvFmt) false acc
          { pairs := f.1.2.map (fun p => (p.2, vs.getD (p.1 % 32) Val.zero)), ea := f.1.1, eb := sv, pad := false }) Accum.zero).hi
    let o := (List.range c.dim).map pv
    if st.m = .inf true then { m := mn, l := bsum, o := o }
    else
      let cr := exp2_32 (fsub st.m mn)
      { m := mn, l := fadd (fmul st.l cr) bsum, o := (st.o.zip o).map (fun p => fadd (fmul p.1 cr) p.2) }

/-- The merge of two chunk states (R281). -/
def RowState.merge (a b : RowState) : RowState :=
  if a.m = .inf true then b
  else if b.m = .inf true then a
  else
    let mn := a.m.max b.m
    let ca := exp2_32 (fsub a.m mn)
    let cb := exp2_32 (fsub b.m mn)
    { m := mn, l := fadd (fmul a.l ca) (fmul b.l cb), o := (a.o.zip b.o).map (fun p => fadd (fmul p.1 ca) (fmul p.2 cb)) }

/-- The state of a row after all chunks (R281). -/
def RowCtx.run (c : RowCtx) (split : Nat) : RowState :=
  let nb := ceilDiv c.kv 64
  let cb := ceilDiv nb (2 ^ split)
  tree RowState.merge (RowState.start c.dim) split ((List.range (2 ^ split)).map (fun i =>
    ((List.range nb).filter (fun b => decide (i * cb ≤ b ∧ b < (i + 1) * cb))).foldl c.block (RowState.start c.dim)))

/-- A finished row (R279, R280): its state, the output values before conversion, and its statistics. -/
structure RowDone where
  st : RowState
  empty : Bool
  out : List Val
  statM : Val
  statLse : Val
  deriving DecidableEq, Repr

/-- The visible keys of a row. -/
def RowCtx.keys (c : RowCtx) : List Nat := (List.range c.kv).filter c.vis

/-- A row finished by the rule of R279. -/
def RowCtx.general (c : RowCtx) (st : RowState) : RowDone :=
  if st.m = .inf true then
    { st := st, empty := false, out := List.replicate c.dim Val.zero, statM := .inf true, statLse := .inf true }
  else
    let r := rcp32 st.l
    { st := st, empty := false, out := st.o.map (fun x => fmul x r), statM := st.m, statLse := fadd st.m (log2_32 st.l) }

/-- A row is finished. With exactly one visible key its fed V row goes out, signs of zero kept, and both statistics are its score
(R280). -/
def RowCtx.finish (c : RowCtx) (split : Nat) : RowDone :=
  let st := c.run split
  let js := c.keys
  match js with
  | [] => { st := st, empty := true, out := List.replicate c.dim Val.zero, statM := .inf true, statLse := .inf true }
  | [j] =>
    { st := st, empty := false,
      out := (List.range c.dim).map (fun i =>
        let (sc, vs) := c.vHalf (j / 32 * 32) i
        if c.pvFmt = 1 then scaled sc (vs.getD (j % 32) Val.zero) else vs.getD (j % 32) Val.zero),
      statM := c.score j, statLse := c.score j }
  | _ => c.general st

/-! ### Rows of a command -/

/-- sm: sm_scale, or rcp32(sqrt32(D)) (R278). -/
def Att.sm (a : Att) : Val := if a.par.sm = 0 then rcp32 (sqrt32 (Val.ofInt a.dim)) else ofFp32 a.par.sm

/-- The Q row of head h at index n, rotated for its token. -/
def State.qRow (s : State) (v : Port3) (a : Att) (x : Entry) (q h : Nat) : List Val :=
  s.rotate v a (a.queryIdx x q) ((List.range a.dim).map (fun i => s.elemVal v a.q [i, h, x.qStart + q]))

/-- The K row of key j rotated. -/
def State.kRot (s : State) (v : Port3) (d : Die) (a : Att) (k : Keys) (h j : Nat) : List Val :=
  s.rotate v a j (s.keyRow v d a k false h j)

/-- The score of key j for a fed Q row: rne32(qk × c), c = rne32(sm × L) (R278). -/
def State.scoreOf (s : State) (v : Port3) (d : Die) (a : Att) (k : Keys) (kvh : Nat) (qf : FedRow) (j : Nat) : Val :=
  fmul (chunkSum (attPath a.qkFmt) false (fedBlocks qf (attFeed a.qkFmt (s.kRot v d a k kvh j)))) (fmul a.sm cL)

/-- Query q of an entry sees key j: R272, and the key is not on an evicted page (R309). -/
def State.visTo (s : State) (d : Die) (a : Att) (k : Keys) (x : Entry) (q j : Nat) : Bool :=
  decide (j < x.kv) && a.sees (a.queryIdx x q) j && !s.gone d k j

/-- The context of the row of query q and head h. -/
def State.rowCtx (s : State) (v : Port3) (d : Die) (a : Att) (k : Keys) (x : Entry) (q h : Nat) : RowCtx :=
  let kvh := h / a.group
  let qf := attFeed a.qkFmt (s.qRow v a x q h)
  { kv := x.kv, vis := s.visTo d a k x q, score := s.scoreOf v d a k kvh qf,
    vRow := fun j => if s.gone d k j then List.replicate a.dim Val.zero else s.keyRow v d a k true kvh j,
    pvFmt := a.pvFmt, dim := a.dim }

/-- The rows of an entry for one KV head, in tile order: token, then group member (R268). -/
def Att.headRows (a : Att) (x : Entry) (kvh : Nat) : List (Nat × Nat) :=
  (List.range x.qCount).flatMap (fun q => (List.range a.group).map (fun g => (q, kvh * a.group + g)))

/-- The rows of an entry. -/
def Att.rowsOf (a : Att) (x : Entry) : List (Nat × Nat) := (List.range a.hkv).flatMap (a.headRows x)

/-- The blocks of an entry that Heron visits: those with a key visible to some query (R274). -/
def State.visited (s : State) (d : Die) (a : Att) (k : Keys) (x : Entry) : List Nat :=
  (List.range (ceilDiv x.kv 64)).filter (fun b =>
    (List.range 64).any (fun t => (List.range x.qCount).any (fun q => s.visTo d a k x q (64 * b + t))))

/-- The keys that are fetched for an entry: those of the visited blocks that exist. -/
def State.fetched (s : State) (d : Die) (a : Att) (k : Keys) (x : Entry) : List Nat :=
  (s.visited d a k x).flatMap (fun b => ((List.range 64).map (fun t => 64 * b + t)).filter
    (fun j => decide (j < x.kv) && !s.gone d k j))

/-- The runs of bytes that the keys of an entry are read from. -/
def State.keySpans (s : State) (d : Die) (a : Att) (k : Keys) (x : Entry) : List (Nat × Nat) :=
  let js := s.fetched d a k x
  match k with
  | .flat e => js.flatMap (fun j => (List.range a.hkv).flatMap (fun h => a.k.rowSpans [h, j, e] ++ a.v.rowSpans [h, j, e]))
  | .pages q uk uv =>
    let rows := js.flatMap (fun j =>
      let p := s.pteOf d q j
      let t := j % q.page
      if p.latent then [(p.frame + q.latOff t, 2 * q.latent)]
      else (List.range a.hkv).flatMap (fun h =>
        [(p.frame + q.rowOff false h t, q.dim * q.elemBytes), (p.frame + q.rowOff true h t, q.dim * q.elemBytes)]
          ++ (if q.format = 1 then [(p.frame + q.scaleOff false h t, q.dim / 32), (p.frame + q.scaleOff true h t, q.dim / 32)] else [])))
    rows ++ (if js.any (fun j => (s.pteOf d q j).latent) then uk.spans ++ uv.spans else [])

/-- The pages that an entry's fetches go through, in order. -/
def State.fetchedPages (s : State) (d : Die) (a : Att) (k : Keys) (x : Entry) : List Nat :=
  match k with
  | .flat _ => []
  | .pages q _ _ => ((s.fetched d a k x).map (fun j => j / q.page)).eraseDups

/-! ### Page fetches: latent pages, misses, stamps (R285, R306, R309) -/

/-- What the first page that stops an ATTEND does: LATENT_MISMATCH, PAGE_MISS, or a stall on page i of a sequence. -/
inductive Stop where
  | latent
  | miss
  | stall (seq page : Nat)
  deriving DecidableEq, Repr

/-- The page fetches of a command in order: (sequence number, sequence, page). -/
def State.fetches (s : State) (d : Die) (l : Live) (a : Att) : List (Nat × Seq × Nat) :=
  a.entries.flatMap (fun x =>
    let k := l.keysOf a x
    match k with
    | .flat _ => []
    | .pages q _ _ => (s.fetchedPages d a k x).map (fun i => (x.seq, q, i)))

/-- Why a page fetch does not give its page: a latent page under chain 0x00, or a page outside the pool. -/
def State.fetchStop (s : State) (d : Die) (a : Att) (f : Nat × Seq × Nat) : Option Stop :=
  let e := s.pte d f.2.1 f.2.2
  if e.latent && !a.latent then some Stop.latent
  else if e.tier = 2 ∨ e.tier = 3 then some (if f.2.1.missFail then Stop.miss else Stop.stall f.1 f.2.2)
  else none

/-- The first page fetch that does not give its page. -/
def State.attStop (s : State) (d : Die) (l : Live) (a : Att) : Option Stop := (s.fetches d l a).findSome? (s.fetchStop d a)

/-- The page fetches before the first that does not give its page. -/
def State.fetchedBefore (s : State) (d : Die) (l : Live) (a : Att) : List (Nat × Seq × Nat) :=
  (s.fetches d l a).takeWhile (fun f => (s.fetchStop d a f).isNone)

/-- The stamps that the page walker writes for fetches (R306); a frame fetched several times gets the same stamp once. -/
def State.stampEmits (s : State) (d : Die) (l : Live) (fs : List (Nat × Seq × Nat)) : List Emit :=
  (fs.map (fun f => Emit.clean (s.dies[d].frameAddr (s.unitOfPte d (s.pte d f.2.1 f.2.2)) + 4) (leBytes 2 l.stamp))).eraseDups

/-- The table entries that the page walker reads. -/
def State.walkSpans (s : State) (d : Die) (l : Live) (a : Att) : List (Nat × Nat) :=
  (s.fetches d l a).flatMap (fun f =>
    [(f.2.1.pteAddr f.2.2, 8), (s.dies[d].frameAddr (s.unitOfPte d (s.pte d f.2.1 f.2.2)), 16)])

/-- The table entries of page fetches, as bytes by address. -/
def State.entriesOfFetches (s : State) (d : Die) (fs : List (Nat × Seq × Nat)) : List (Nat × List Byte) :=
  fs.map (fun f => (f.2.1.pteAddr f.2.2, s.loadN (.die d) false (f.2.1.pteAddr f.2.2) 8))

/-- The memory as a command reads it that has stalled: the pages that it fetched before are where its table entries had them. A frame
freed since is not used again before the command ends (R305), so it still holds them. -/
def State.asFetched (s : State) (d : Die) (l : Live) : State :=
  l.fetched.foldl (fun (s : State) e => s.storeRaw (.die d) false e.1 e.2) s

/-! ### Attention mass (R284) -/

/-- The contribution of a tile's rows to page i: rows are (context, finished row). -/
def massOf (q : Seq) (rows : List (RowCtx × RowDone)) (i : Nat) : Nat :=
  let key (j : Nat) : Val := rowSum (rows.map (fun r =>
    if r.1.vis j then fmul (exp2_32 (fsub (r.1.score j) r.2.st.m)) (rcp32 r.2.st.l) else Val.zero))
  convert 0x03 false 0 0 (rowSum ((List.range q.page).map (fun t => key (i * q.page + t))))

/-- Tiles of an entry for one KV head: runs of 128 rows (R268). -/
def Att.tiles (a : Att) (x : Entry) (kvh : Nat) : List (List (Nat × Nat)) := pieces 128 (a.headRows x kvh)

/-- The contributions of a command: (entry's sequence, page, FP16 code), tile by tile. -/
def State.massParts (s : State) (v : Port3) (d : Die) (l : Live) (a : Att) : List (Nat × Nat × Nat) :=
  a.entries.flatMap (fun x =>
    let k := l.keysOf a x
    match k with
    | .flat _ => []
    | .pages q _ _ =>
      (List.range a.hkv).flatMap (fun kvh => (a.tiles x kvh).flatMap (fun tile =>
        let rows := tile.map (fun r => let c := s.rowCtx v d a k x r.1 r.2; (c, c.finish a.split))
        ((s.fetchedPages d a k x).filter (fun i => (List.range q.page).any (fun t => rows.any (fun r => r.1.vis (i * q.page + t))))).map
          (fun i => (x.seq, i, massOf q rows i)))))

/-- FP16 additions to a mass counter in an order that is open: the n-th draw picks the next contribution (R284). -/
def addMass (n : Nat) : Nat → Nat → List Nat → Nat
  | 0, m, _ => m
  | fuel + 1, m, cs =>
    if cs.isEmpty then m
    else
      let i := Config.freeAt n fuel % cs.length
      addMass n fuel (convert 0x03 false 0 0 ((decodeElem 0x03 false m).add (decodeElem 0x03 false (cs.getD i 0)))) (cs.eraseIdx i)

/-- The mass counters written, each with its whole entry (R302); an entry that holds no page any more gets none. -/
def State.massEmits (s now : State) (v : Port3) (d : Die) (l : Live) (a : Att) : List Emit :=
  let parts := s.massParts v d l a
  let pages := (parts.map (fun p => (p.1, p.2.1))).eraseDups.filter (fun p =>
    decide ((now.pte d (readSeq (l.note (0x1000 + p.1))) p.2).tier ≠ 0))
  pages.zipIdx.map (fun (p, i) =>
    let q := readSeq (l.note (0x1000 + p.1))
    let cs := (parts.filter (fun x => decide (x.1 = p.1 ∧ x.2.1 = p.2))).map (fun x => x.2.2)
    let e := now.pte d q p.2
    Emit.clean (q.pteAddr p.2)
      (leBytes 8 (Pte.word { e with mass := addMass (Config.freeAt (Config.freeAt a.choice 2) i) cs.length e.mass cs })))

/-! ### ATTEND -/

/-- The runs that Q, the tables and the keys of a command are read from. -/
def State.attReads (s : State) (d : Die) (l : Live) (a : Att) : List (Nat × Nat) :=
  a.entries.flatMap (fun x => (a.rowsOf x).flatMap (fun r => a.q.rowSpans [r.2, x.qStart + r.1]))
    ++ (if a.par.rotates then a.freq.spans ++ (if a.tpos.rank = 0 then [] else a.tpos.spans) else [])
    ++ a.entries.flatMap (fun x => s.keySpans d a (l.keysOf a x) x)

/-- The work of ATTEND (R278-R284, R293): s is the memory as the command reads it, `now` the memory as it stands. -/
def State.attendWork (s now : State) (v : Port3) (d : Die) (l : Live) (a : Att) : Work :=
  let rows := a.entries.flatMap (fun x => (a.rowsOf x).map (fun r =>
    (r.2, x.qStart + r.1, (s.rowCtx v d a (l.keysOf a x) x r.1 r.2).finish a.split)))
  let outs := rows.map (fun r => a.out.emitRow [r.1, r.2.1] 0 (outSat a.out.format) r.2.2.out)
  let stats := if a.train then rows.map (fun r => Emit.clean (a.stats.addr [0, r.1, r.2.1])
      (leBytes 4 (toFp32 r.2.2.statM) ++ leBytes 4 (toFp32 r.2.2.statLse))) else []
  let empty := (rows.filter (fun r => r.2.2.empty)).length
  let bad := (outs.filter (fun o => o.2.any (fun p => p.2.nonFinite || p.1.isNan))).length
  { reads := s.attReads d l a, checks := s.walkSpans d l a,
    emits := outs.flatMap (·.1) ++ stats ++ s.stampEmits d l (s.fetches d l a) ++ (if a.mass then s.massEmits now v d l a else []),
    result := satAt 65535 empty + satAt 4095 bad * 65536 + a.split * 2 ^ 28 }

/-- PG_MISS counts (R309): the stall field (15:0) or the fail field (31:16). -/
def State.countMissPage (s : State) (d : Die) (hi lo : Nat) : State :=
  s.modDie d (fun x => { x with pageBlk := x.pageBlk.set 14 (setField x.pageBlk[14] hi lo (satAt 0xFFFF (field x.pageBlk[14] hi lo + 1))) })

/-- The pages fetched before a stop get their stamps (R306), and the command keeps their entries: its finished steps are not redone
(R207, R285). -/
def State.stopFetch (s : State) (d : Die) (q : QIdx) (i : Nat) (l : Live) : State :=
  let r := s.asFetched d l
  let fs := r.fetchedBefore d l (attendOf l)
  (s.emitAll (viewOf (.die d) q) (r.stampEmits d l fs)).modQueue (.die d) q (fun x => x.modLive i (fun l =>
    { l with fetched := r.entriesOfFetches d fs }))

/-- The steps of the running ATTEND at place i of queue q: it ends or stalls at the first page fetch that stops it, else its work is
done (R285, R309). -/
def State.attendRun (s : State) (d : Die) (q : QIdx) (i : Nat) (l : Live) : State :=
  let v := viewOf (.die d) q
  let a := attendOf l
  let r := s.asFetched d l
  match r.readFail v (r.walkSpans d l a) with
  | some f => s.failExec d q i f false []
  | none => match r.attStop d l a with
    | some .latent => (s.stopFetch d q i l).endExec d q i stLatent 0
    | some .miss => ((s.stopFetch d q i l).countMissPage d 31 16).endExec d q i stPageMiss 0
    | some (.stall _ _) =>
      ((s.stopFetch d q i l).countMissPage d 15 0).modQueue (.die d) q (fun x => x.modLive i (fun l => { l with stall := 1 }))
    | none =>
      let x := r.veil d q i
      let s := s.modQueue (.die d) q (fun x => x.modLive i (fun l => { l with stall := 0 }))
      { s with freeCtr := x.freeCtr }.doWork d q i (x.attendWork s v d l a)

/-- Heron's key blocks that some row of the command visits: at most for one row (R207, R274). -/
def State.attendSteps (s : State) (d : Die) (l : Live) (a : Att) : Nat :=
  (a.entries.flatMap (fun x =>
    let k := l.keysOf a x
    (List.range x.qCount).map (fun q => ((List.range (ceilDiv x.kv 64)).filter (fun b =>
      (List.range 64).any (fun t => s.visTo d a k x q (64 * b + t)))).length))).foldl max 1

/-- Some page that the command fetches is latent, so that its steps include latent expansion (R292). -/
def State.expands (s : State) (d : Die) (l : Live) (a : Att) : Bool :=
  a.latent && (s.fetches d l a).any (fun f => (s.pte d f.2.1 f.2.2).latent)

/-- ATTEND (R287). -/
def execAttend (d : Die) (q : QIdx) (s : State) : Host.Outcome State Fault Refusal :=
  .next (match s.startable d q 0x12 with
    | none => s
    | some (i, l) => (s.beginExec d q i).attendRun d q i l)

/-! ### ATTEND_BWD (R290, R291) -/

/-- BF16 feed, rnd 0, sat 1. -/
def bf16 (x : Val) : Val := decodeElem 0x02 false (convert 0x02 false 0 1 x)

/-- A product over d on the sequential path (R228). -/
def dotSeq (xs ys : List Val) : Val := (xs.zip ys).foldl (fun (acc : Val) p => fadd acc (p.1.mul p.2)) Val.zero

/-- acc + w × row, element by element (R228). -/
def axpy (w : Val) (row acc : List Val) : List Val := (acc.zip row).map (fun p => fadd p.1 (w.mul p.2))

/-- What a row gives a visible key (R291): the key, fed p and fed ds. -/
structure RowGrad where
  q : Nat
  h : Nat
  x : Entry
  terms : List (Nat × Val × Val)
  doutB : List Val
  qRotB : List Val

/-- The gradient terms of the row of query q and head h. -/
def State.rowGrad (s : State) (v : Port3) (d : Die) (a : Att) (dout : Desc) (k : Keys) (x : Entry) (q h : Nat) : RowGrad :=
  let n := x.qStart + q
  let c := s.rowCtx v d a k x q h
  let row (t : Desc) : List Val := (List.range a.dim).map (fun i => s.elemVal v t [i, h, n])
  let lse := s.elemVal v a.stats [1, h, n]
  let dv := row dout
  let delta := rowSum ((dv.zip (row a.out)).map (fun p => fmul p.1 p.2))
  let doB := dv.map bf16
  let terms := if lse = .inf true then [] else c.keys.map (fun j =>
    let p := exp2_32 (fsub (c.score j) lse)
    let dp := dotSeq doB ((c.vRow j).map bf16)
    (j, bf16 p, bf16 (fmul (fmul p (fsub dp delta)) a.sm)))
  { q := q, h := h, x := x, terms := terms, doutB := doB, qRotB := (s.qRow v a x q h).map bf16 }

/-- dq_rot of a row: chunk partials over ascending keys, reduced by the tree (R291). -/
def RowGrad.dq (g : RowGrad) (dim split : Nat) (kRot : Nat → List Val) : List Val :=
  let cb := ceilDiv (ceilDiv g.x.kv 64) (2 ^ split)
  let zero := List.replicate dim Val.zero
  let part (i : Nat) : List Val := (g.terms.filter (fun t => decide (i * cb ≤ t.1 / 64 ∧ t.1 / 64 < (i + 1) * cb))).foldl
    (fun (acc : List Val) t => axpy t.2.2 (kRot t.1) acc) zero
  tree (fun a b => (a.zip b).map (fun p => fadd p.1 p.2)) zero split ((List.range (2 ^ split)).map part)

/-- The work of ATTEND_BWD (R290, R291, R293). A key that no row sees gets dk and dv of +0, an empty row dq of +0 (R291). -/
def State.attendBwdWork (s : State) (v : Port3) (d : Die) (l : Live) : Work :=
  let a := attendBwdOf l
  let g (i : Nat) := l.descs.getD i Desc.none
  let dout := g 4
  let dqD := g 11
  let dkD := g 12
  let dvD := g 13
  let zero := List.replicate a.dim Val.zero
  let parts := a.entries.map (fun x =>
    let k := l.keysOf a x
    let heads := (List.range a.hkv).map (fun kvh =>
      let rows := (a.headRows x kvh).map (fun r => s.rowGrad v d a dout k x r.1 r.2)
      let kB (j : Nat) : List Val := (s.kRot v d a k kvh j).map bf16
      let dqs := rows.map (fun r => dqD.emitRow [r.h, x.qStart + r.q] 0 (outSat dqD.format)
        (if !(List.range x.kv).any (s.visTo d a k x r.q) then zero else s.rotateBack v a (a.queryIdx x r.q) (r.dq a.dim a.split kB)))
      let forKey (j : Nat) (f : RowGrad → (Nat × Val × Val) → List Val → List Val) : List Val :=
        rows.foldl (fun (acc : List Val) r => match r.terms.find? (fun t => t.1 == j) with
          | some t => f r t acc
          | none => acc) zero
      let seen (j : Nat) : Bool := (List.range x.qCount).any (fun q => s.visTo d a k x q j)
      let keys := (List.range x.kv).flatMap (fun j =>
        [dkD.emitRow [kvh, j, x.e] 0 (outSat dkD.format)
           (if seen j then s.rotateBack v a j (forKey j (fun r t acc => axpy t.2.2 r.qRotB acc)) else zero),
         dvD.emitRow [kvh, j, x.e] 0 (outSat dvD.format) (forKey j (fun r t acc => axpy t.2.1 r.doutB acc))])
      dqs ++ keys)
    let empty := ((a.rowsOf x).filter (fun r => (s.rowCtx v d a k x r.1 r.2).keys.isEmpty)).length
    (heads.flatten, empty))
  let rows := parts.flatMap (·.1)
  let extra := a.entries.flatMap (fun x => (a.rowsOf x).flatMap (fun r =>
    let o := [r.2, x.qStart + r.1]
    a.out.rowSpans o ++ dout.rowSpans o ++ [(a.stats.addr (0 :: o), 8)]))
  { reads := s.attReads d l a ++ extra, emits := rows.flatMap (·.1),
    result := satAt 65535 ((parts.map (·.2)).sum) + satAt 4095 (countWritten (rows.map (·.2))) * 65536 + a.split * 2 ^ 28 }

/-- ATTEND_BWD (R290). -/
def execAttendBwd (d : Die) (q : QIdx) (s : State) : Host.Outcome State Fault Refusal :=
  .next (s.runWith d q 0x13 (fun s l => s.attendBwdWork (viewOf (.die d) q) d l))

/-! ### Step 4 (R289, R290) -/

/-- A required operand's place among the body's index fields. -/
structure AttFields where
  q : Nat
  k : Nat
  lens : Nat
  par : Nat
  stats : Nat
  qidx : Nat
  tpos : Nat
  freq : Nat

/-- The bytes of an ATTEND body break no rule of their own (R289). -/
def attendBodyOk (b : List Byte) : Bool :=
  let mode := byteAt b 20
  decide (byteAt b 25 = 0) && decide (leAt b 28 20 = 0) && decide (mode < 8) && decide (byteAt b 21 ≤ 3) && decide (byteAt b 22 ≤ 1)
    && decide (byteAt b 23 ≤ 1) && decide (byteAt b 24 ≤ 4) && decide (leAt b 26 2 ≤ 256)
    && (mode.testBit 0 || decide (leAt b 12 2 = 0xFFFF)) && (!mode.testBit 2 || mode.testBit 1)

/-- The bytes of an ATTEND_BWD body break no rule of their own; mode bit 1 is judged apart (R290). -/
def attendBwdBodyOk (b : List Byte) : Bool :=
  decide (byteAt b 33 = 0) && decide (leAt b 36 12 = 0) && decide (byteAt b 28 = 0 ∨ byteAt b 28 = 2) && decide (byteAt b 29 ≤ 3)
    && decide (byteAt b 30 ≤ 1) && decide (byteAt b 31 ≤ 1) && decide (byteAt b 32 ≤ 4) && decide (leAt b 34 2 ≤ 256)

/-- A q, k or v format (R289): FP32, BF16, FP16, or FP8 with mx on dimension 0. -/
def attOperand (d : Desc) : Bool :=
  d.plainFloat || (decide (d.format = 0x04 ∨ d.format = 0x05) && d.mx && decide (d.scaleDim = 0))

/-- A parameter block's descriptor (R288). -/
def attParDesc (d : Desc) : Bool := decide (d.format = 0x0C) && d.hasDims [16] && !d.mx

/-- A length table's descriptor (R314). -/
def lensDesc (d : Desc) : Bool :=
  decide (d.format = 0x0C) && decide (d.dims[0] = 4) && (decide (d.rank = 2) || (decide (d.rank = 3) && decide (d.dims[2] ≤ 16)))

/-- Step 4 of an attention command once its tables have been read: shapes, formats, alignment, then the entries (R289, R314).
`extra` are the tensors with the dims of q, with whether they may be FP8; `seqs` gives a sequence's bytes. -/
def attStatus (a : Att) (lens : Desc) (extra : List (Desc × Bool)) (grads : List Desc) (seqOf : Nat → List Byte) : Nat :=
  let n := a.q.dims[2]
  let dims := [a.dim, a.hq, n]
  firstStatus [
    (!lensDesc lens, stShape),
    (!decide (a.q.rank = 3 ∧ (a.dim = 64 ∨ a.dim = 128 ∨ a.dim = 256)), stShape),
    (!decide (a.hq = a.group * a.hkv), stShape),
    (!a.paged && !(decide (a.k.rank = 4) && decide (a.k.dims[0] = a.dim) && decide (a.v.shape = a.k.shape)), stShape),
    (!(extra.all (fun t => t.1.hasDims dims)) || !(grads.all (fun t => t.hasDims a.k.shape)), stShape),
    (decide (a.stats.rank ≠ 0) && !a.stats.hasDims [2, a.hq, n], stShape),
    (decide (a.qidx.rank ≠ 0) && !a.qidx.hasDims [n], stShape),
    (decide (a.tpos.rank ≠ 0) && decide (a.tpos.rank ≠ 1), stShape),
    (a.par.rotates && !a.freq.hasDims [a.dim / 2], stShape),
    (a.qidxCodes.any (fun c => decide (2 ^ 31 ≤ c)), stShape),
    (a.entries.any (fun x => decide (x.kv < a.gCount) || decide (n < x.qStart + x.qCount)), stShape),
    (!a.paged && a.entries.any (fun x => decide (x.seq ≠ 0 ∨ a.k.dims[2] < x.kv ∨ a.k.dims[3] ≤ x.e)), stShape),
    (a.entries.any (fun x => match x.bucket with | some b => decide (64 * 2 ^ b < x.kv) | none => false), stShape),
    (a.paged && a.entries.any (fun x => decide (4096 ≤ x.seq) || !seqOk (seqOf x.seq) || decide ((readSeq (seqOf x.seq)).length < x.kv)), stBadSeq),
    (a.paged && a.entries.any (fun x => decide ((readSeq (seqOf x.seq)).dim ≠ a.dim ∨ (readSeq (seqOf x.seq)).heads ≠ a.hkv)), stShape),
    (!(attOperand a.q && (a.paged || (attOperand a.k && attOperand a.v))), stNotSupported),
    (extra.any (fun t => !(t.1.plainFloat || (t.2 && decide (t.1.format = 0x04)))), stNotSupported),
    (grads.any (fun t => !(decide (t.format = 0x01 ∨ t.format = 0x02) && !t.mx)), stNotSupported),
    (extra.any (fun t => t.1.mx && decide (t.1.scaleDim ≠ 0)), stShape),
    (decide (a.stats.rank ≠ 0) && !(decide (a.stats.format = 0x01) && !a.stats.mx), stNotSupported),
    (decide (a.qidx.rank ≠ 0) && decide (a.qidx.format ≠ 0x0C), stNotSupported),
    ((decide (a.tpos.rank ≠ 0) && decide (a.tpos.format ≠ 0x01)) || (a.par.rotates && decide (a.freq.format ≠ 0x01)), stNotSupported),
    (!(a.q.aligned 32 && (a.paged || (a.k.aligned 32 && a.v.aligned 32)) && extra.all (fun t => t.1.aligned 32)), stBadAlign)]

end Sys2Proof.Machine
end

