-- ==== Sys2Proof/Machine/Crypto.lean ====
section
/-!
DEFINITION. The signature check of an image (R436): SHA-256 of a byte list and ECDSA on the curve P-256. The two algorithms are
those that the spec names; their constants are the published ones (PRESUMED, assumption log 30).
-/
namespace Sys2Proof.Machine

open Sys2Proof

/-! ### SHA-256 -/

/-- The round constants. -/
def shaK : List Word :=
  ([0x428A2F98, 0x71374491, 0xB5C0FBCF, 0xE9B5DBA5, 0x3956C25B, 0x59F111F1, 0x923F82A4, 0xAB1C5ED5]
    ++ [0xD807AA98, 0x12835B01, 0x243185BE, 0x550C7DC3, 0x72BE5D74, 0x80DEB1FE, 0x9BDC06A7, 0xC19BF174]
    ++ [0xE49B69C1, 0xEFBE4786, 0x0FC19DC6, 0x240CA1CC, 0x2DE92C6F, 0x4A7484AA, 0x5CB0A9DC, 0x76F988DA]
    ++ [0x983E5152, 0xA831C66D, 0xB00327C8, 0xBF597FC7, 0xC6E00BF3, 0xD5A79147, 0x06CA6351, 0x14292967]
    ++ [0x27B70A85, 0x2E1B2138, 0x4D2C6DFC, 0x53380D13, 0x650A7354, 0x766A0ABB, 0x81C2C92E, 0x92722C85]
    ++ [0xA2BFE8A1, 0xA81A664B, 0xC24B8B70, 0xC76C51A3, 0xD192E819, 0xD6990624, 0xF40E3585, 0x106AA070]
    ++ [0x19A4C116, 0x1E376C08, 0x2748774C, 0x34B0BCB5, 0x391C0CB3, 0x4ED8AA4A, 0x5B9CCA4F, 0x682E6FF3]
    ++ [0x748F82EE, 0x78A5636F, 0x84C87814, 0x8CC70208, 0x90BEFFFA, 0xA4506CEB, 0xBEF9A3F7, 0xC67178F2] : List Nat).map (BitVec.ofNat 32)

/-- The initial hash words. -/
def shaH : List Word := ([0x6A09E667, 0xBB67AE85, 0x3C6EF372, 0xA54FF53A, 0x510E527F, 0x9B05688C, 0x1F83D9AB, 0x5BE0CD19] : List Nat).map (BitVec.ofNat 32)

/-- A 32-bit rotation to the right. -/
def rotr (w : Word) (n : Nat) : Word := w.rotateRight n

/-- The n-th word of a list of words, zero beyond its end. -/
def wordAt (ws : List Word) (n : Nat) : Word := ws.getD n 0

/-- The message schedule, newest word first, extended by n words. -/
def shaExtend : Nat → List Word → List Word
  | 0, ws => ws
  | n + 1, ws =>
    let a := wordAt ws 14
    let b := wordAt ws 1
    let s0 := rotr a 7 ^^^ rotr a 18 ^^^ (a >>> 3)
    let s1 := rotr b 17 ^^^ rotr b 19 ^^^ (b >>> 10)
    shaExtend n ((wordAt ws 15 + s0 + wordAt ws 6 + s1) :: ws)

/-- One round on the working words a..h. -/
def shaRound (v : List Word) (kw : Word) : List Word :=
  let a := wordAt v 0; let b := wordAt v 1; let c := wordAt v 2
  let e := wordAt v 4; let f := wordAt v 5; let g := wordAt v 6
  let s1 := rotr e 6 ^^^ rotr e 11 ^^^ rotr e 25
  let ch := (e &&& f) ^^^ (~~~e &&& g)
  let t1 := wordAt v 7 + s1 + ch + kw
  let s0 := rotr a 2 ^^^ rotr a 13 ^^^ rotr a 22
  let maj := (a &&& b) ^^^ (a &&& c) ^^^ (b &&& c)
  [t1 + s0 + maj, a, b, c, wordAt v 3 + t1, e, f, g]

/-- One 64-byte block folded into the hash words. -/
def shaBlock (h : List Word) (b : List Byte) : List Word :=
  let ws := (List.range 16).map (fun i => BitVec.ofNat 32 (leNat ((b.drop (4 * i)).take 4).reverse))
  let sched := (shaExtend 48 ws.reverse).reverse
  let v := (List.zipWith (fun k w => k + w) shaK sched).foldl shaRound h
  List.zipWith (fun x y => x + y) h v

/-- The blocks of a padded message. -/
def shaBlocks : Nat → List Word → List Byte → List Word
  | 0, h, _ => h
  | n + 1, h, bs => shaBlocks n (shaBlock h (bs.take 64)) (bs.drop 64)

/-- SHA-256 of a byte list, as the 256-bit number whose most significant byte comes first. -/
def sha256 (bs : List Byte) : Nat :=
  let zeros := (119 - bs.length % 64) % 64
  let m := bs ++ [0x80#8] ++ List.replicate zeros 0 ++ beBytes 8 (8 * bs.length)
  (shaBlocks (m.length / 64) shaH m).foldl (fun acc w => acc * 2 ^ 32 + w.toNat) 0

/-! ### ECDSA on P-256 -/

def p256P : Nat := 0xFFFFFFFF00000001000000000000000000000000FFFFFFFFFFFFFFFFFFFFFFFF
def p256N : Nat := 0xFFFFFFFF00000000FFFFFFFFFFFFFFFFBCE6FAADA7179E84F3B9CAC2FC632551
def p256Gx : Nat := 0x6B17D1F2E12C4247F8BCE6E563A440F277037D812DEB33A0F4A13945D898C296
def p256Gy : Nat := 0x4FE342E2FE1A7F9B8EE7EB4A7C0F9E162BCE33576B315ECECBB6406837BF51F5

/-- b to the power e modulo m, over the low n bits of e. -/
def powMod (m : Nat) : Nat → Nat → Nat → Nat
  | 0, _, _ => 1 % m
  | n + 1, b, e => (if e % 2 = 1 then b else 1) * powMod m n (b * b % m) (e / 2) % m

/-- The inverse of a modulo a prime m below 2^256. -/
def invMod (m a : Nat) : Nat := powMod m 256 (a % m) (m - 2)

/-- A curve point; none is the point at infinity. -/
abbrev Point := Option (Nat × Nat)

/-- The sum of two points (the curve has a = -3). -/
def Point.add (p q : Point) : Point :=
  match p, q with
  | none, q => q
  | p, none => p
  | some (x1, y1), some (x2, y2) =>
    let m := p256P
    if x1 = x2 ∧ (y1 + y2) % m = 0 then none
    else
      let l := if x1 = x2 then (3 * x1 * x1 + (m - 3)) * invMod m (2 * y1) % m
               else (y2 + m - y1) * invMod m (x2 + m - x1) % m
      let x3 := (l * l + 2 * m - x1 - x2) % m
      some (x3, (l * (x1 + m - x3) + m - y1) % m)

/-- k times a point, over the low n bits of k. -/
def Point.mul : Nat → Nat → Point → Point
  | 0, _, _ => none
  | n + 1, k, p => Point.add (if k % 2 = 1 then p else none) (Point.mul n (k / 2) (Point.add p p))

/-- An ECDSA P-256 signature (r, s) of a SHA-256 digest verifies against a public key. -/
def ecdsaOk (qx qy digest r s : Nat) : Bool :=
  let n := p256N
  if r = 0 ∨ n ≤ r ∨ s = 0 ∨ n ≤ s then false
  else
    let w := invMod n s
    let u1 := digest % n * w % n
    let u2 := r * w % n
    match Point.add (Point.mul 256 u1 (some (p256Gx, p256Gy))) (Point.mul 256 u2 (some (qx, qy))) with
    | none => false
    | some (x, _) => decide (x % n = r)

end Sys2Proof.Machine
end

