-- ==== Sys2Proof/Machine/Tidemark.lean ====
section
/-!
DEFINITION. Tidemark (R134, R135, R407, R408, R440): the slot layout, the choice of a slot, the index and sequence number of
the next record, the scan at boot, and the log window.
-/
namespace Sys2Proof.Machine

open Sys2Proof

/-- Record kinds (R135). -/
abbrev kTrip : Nat := 0x0001
abbrev kRearm : Nat := 0x0002
abbrev kSense : Nat := 0x0003
abbrev kSupply : Nat := 0x0010
abbrev kHv : Nat := 0x0020
abbrev kSafety : Nat := 0x0030
abbrev kPair : Nat := 0x0040

/-- Records in Tidemark (R134). -/
abbrev tmRecords : Nat := 2048

/-- Seq a is later than seq b under wrap-around (R440). -/
def seqLater (a b : Nat) : Bool :=
  let d := (a + 2 ^ 32 - b % 2 ^ 32) % 2 ^ 32
  decide (d ≠ 0) && decide (d < 2 ^ 31)

/-- The 64 bytes of a slot (R134). -/
def slotBytes (e : TmEvent) (seq : Nat) (card : Bool) : List Byte :=
  let body := leBytes 4 seq ++ leBytes 2 e.kind ++ leBytes 2 (b2n e.rasterValid + 2 * b2n card)
    ++ leBytes 8 e.raster.toNat ++ leBytes 4 e.tick.toNat ++ leBytes 4 e.location.toNat
    ++ (e.payload ++ List.replicate 32 0).take 32 ++ leBytes 4 e.epoch.toNat
  body ++ leBytes 4 (crc32 body).toNat

/-- The 64 bytes of slot k of record i. -/
def Tidemark.slot (m : Tidemark) (i k : Nat) : List Byte := m.cells.readN (128 * i + 64 * k) 64

/-- A slot has a correct CRC (R134). -/
def slotOk (bs : List Byte) : Bool := decide (leAt bs 60 4 = (crc32 (bs.take 60)).toNat)

/-- The slot that R135 selects, none for an empty record. -/
def Tidemark.chosen (m : Tidemark) (i : Nat) : Option Nat :=
  let a := m.slot i 0
  let b := m.slot i 1
  match slotOk a, slotOk b with
  | true, true => if seqLater (leAt b 0 4) (leAt a 0 4) then some 1 else some 0
  | true, false => some 0
  | false, true => some 1
  | false, false => none

/-- The bytes of the slot a reader takes from record i. -/
def Tidemark.record (m : Tidemark) (i : Nat) : Option (List Byte) := (m.chosen i).map (m.slot i)

/-- Fields of a slot's bytes (R134). -/
def recSeq (bs : List Byte) : Nat := leAt bs 0 4
def recKind (bs : List Byte) : Nat := leAt bs 4 2
def recPayload (bs : List Byte) : List Byte := (bs.drop 24).take 32

/-- A record is the newest record of a latch and may not be overwritten (R408). -/
def Tidemark.kept (m : Tidemark) (i : Nat) : Bool :=
  decide (m.keepTrip = some i) || decide (m.keepHv = some i) || decide (m.keepSaf = some i)

/-- The first index from i on that is not kept; at most three are. -/
def Tidemark.skip (m : Tidemark) : Nat → Nat → Nat
  | 0, i => i % tmRecords
  | n + 1, i => if m.kept (i % tmRecords) then m.skip n (i + 1) else i % tmRecords

/-- The index at which the next record is written (R408). -/
def State.nextRecord (s : State) : Nat :=
  match s.tm.skipTo with
  | some i => s.tm.skip 3 i
  | none => if s.bit R.LOG_HEAD 31 then s.tm.skip 3 (s.fld R.LOG_HEAD 10 0 + 1) else s.tm.skip 3 0

/-- The record latches as an HV fault that R359 latches (cause 4, or attempts 3, in phase 0 or 1). -/
def hvLatches (p : List Byte) : Bool :=
  (decide (byteAt p 1 = 4) || decide (byteAt p 2 = 3)) && decide (byteAt p 3 ≤ 1)

/-- Which latch records must be kept after record i with kind and payload was written (R408). -/
def Tidemark.keepAfter (m : Tidemark) (i kind : Nat) (p : List Byte) : Tidemark :=
  if kind = kTrip then { m with keepTrip := some i }
  else if kind = kRearm then { m with keepTrip := none }
  else if kind = kHv then
    (if byteAt p 3 = 2 then { m with keepHv := none } else if hvLatches p then { m with keepHv := some i } else m)
  else if kind = kSafety then { m with keepSaf := if leAt p 4 2 / 8 % 8 ≠ 0 then some i else none }
  else m

/-- One slot of a record is written; a slot that fails its read-back holds open bytes. -/
def State.writeSlot (s : State) (i k : Nat) (bs : List Byte) (ok : Bool) : State :=
  let (b, s) := if ok then (bs, s) else s.freeBytes 64
  { s with tm := { s.tm with cells := s.tm.cells.writeN (128 * i + 64 * k) b } }

/-- The 64 bytes of a slot whose write was torn: open bytes whose CRC is not correct (R135). -/
def State.tornBytes (s : State) : List Byte × State :=
  let (bs, s) := s.freeBytes 60
  let (n, s) := s.draw
  (bs ++ leBytes 4 ((crc32 bs).toNat + 1 + Config.freeNat n % (2 ^ 32 - 1)), s)

/-- The oldest waiting event may be in the middle of its record's write when the Prilliner stops (R100, R135): the write has not
begun, is torn in slot 0 with slot 1 as it was, has slot 0 alone, is torn in slot 1, or is done. Which of these is free (assumption
log 7). -/
def State.tearRecord (s : State) : State :=
  match s.tm.pend with
  | [] => s
  | e :: _ =>
    let i := s.nextRecord
    let bs := slotBytes e s.tm.nextSeq s.tm.cardFlag
    let (n, s) := s.draw
    let (torn, s) := s.tornBytes
    match Config.freeNat n % 5 with
    | 0 => s
    | 1 => s.writeSlot i 0 torn true
    | 2 => s.writeSlot i 0 bs true
    | 3 => (s.writeSlot i 0 bs true).writeSlot i 1 torn true
    | _ => (s.writeSlot i 0 bs true).writeSlot i 1 bs true

/-- The write verify of a record failed: LOG_STATUS.write_fail and the tidemark cause (R408). -/
def State.logWriteFail (s : State) : State := (s.putBit R.LOG_STATUS 5 true).putBit R.SAF_CAUSE 14 true

/-- TIDEMARK_RECORD_WRITE: the oldest waiting event is written, slot 0 then slot 1 (R134, R408). -/
def State.writeRecord (s : State) (ok0 ok1 : Bool) : State :=
  match s.tm.pend with
  | [] => s
  | e :: rest =>
    let i := s.nextRecord
    let had := (s.tm.chosen i).isSome
    let bs := slotBytes e s.tm.nextSeq s.tm.cardFlag
    let s := (s.writeSlot i 0 bs ok0).writeSlot i 1 bs ok1
    let s := { s with tm := { s.tm with pend := rest } }
    let s := if ok0 && ok1 then s else s.logWriteFail
    let has := (s.tm.chosen i).isSome
    let n := s.fld R.LOG_COUNT 11 0
    let s := s.setFld R.LOG_COUNT 11 0 (if has && !had then n + 1 else if had && !has then n - 1 else n)
    if ok0 || ok1 then
      let s := (s.setFld R.LOG_HEAD 10 0 i).putBit R.LOG_HEAD 31 true
      let s := { s with tm := { s.tm.keepAfter i e.kind e.payload with
                                  nextSeq := (s.tm.nextSeq + 1) % 2 ^ 32, cardFlag := false, skipTo := none } }
      -- the cause record of a composed trip card names the card's record (R368)
      if s.hv.cardWaits ∧ s.hv.cardRecord.isNone ∧
          ((e.kind = kTrip ∧ s.hv.cardCause = 1) ∨ (e.kind = kSupply ∧ s.hv.cardCause = 2)) then
        { s with hv := { s.hv with cardRecord := some i } }
      else s
    else { s with tm := { s.tm with skipTo := some (i + 1) } }

/-- Tidemark has been scanned since the reset (R440), so the index and seq of the next record are known: from the start of the
firmware, or its failure, on (DESIGN CHOICE, assumption log 52). -/
def State.logScanned (s : State) : Bool := s.img.booted || decide (s.fld R.MG_STATE 2 0 ≠ 0)

/-- TIDEMARK_RECORD_WRITE (R134, R408): before the scan an event waits. -/
def execTidemarkRecordWrite (ok0 ok1 : Bool) (s : State) : Host.Outcome State Fault Refusal :=
  .next (if s.pwr.stopped ∨ s.saf.restart ≠ 0 ∨ !s.logScanned then s else s.writeRecord ok0 ok1)

/-! ### The log window (R407) -/

/-- The 32 words of a record's raw bytes go into LOG_WIN0-LOG_WIN31. -/
def State.fillWindow (s : State) (i : Nat) : Nat → State
  | 0 => s
  | n + 1 => (s.fillWindow i n).setReg (R.LOG_WIN0 + n) (BitVec.ofNat 32 (leNat (s.tm.cells.readN (128 * i + 4 * n) 4)))

/-- The selected record is captured and LOG_STATUS reports it (R407). -/
def State.captureLog (s : State) (i : Nat) : State :=
  let c := s.tm.chosen i
  let a := slotOk (s.tm.slot i 0)
  let b := slotOk (s.tm.slot i 1)
  let s := s.fillWindow i 32
  let s := s.setFld R.LOG_STATUS 4 0 (b2n a + 2 * b2n b + 4 * (c.getD 0) + 8 * b2n c.isNone)
  { s with tm := { s.tm with captureWait := none } }

/-- A write to LOG_SEL: captured at once, or when the slot being written is done (R407). -/
def State.selectLog (s : State) (i : Nat) (slotBusy : Bool) : State :=
  let s := s.setFld R.LOG_SEL 10 0 i
  if slotBusy then { s.putBit R.LOG_STATUS 4 true with tm := { s.tm with captureWait := some i } } else s.captureLog i

/-- LOG_CAPTURE (R135, R407). -/
def execLogCapture (index : BitVec 11) (slotBusy : Bool) (s : State) : Host.Outcome State Fault Refusal :=
  .next (s.selectLog index.toNat slotBusy)

/-- LOG_CAPTURE_DONE (R407): the slot that a capture waited for has finished. -/
def execLogCaptureDone (s : State) : Host.Outcome State Fault Refusal :=
  .next (match s.tm.captureWait with | some i => s.captureLog i | none => s)

/-! ### The scan at boot (R440) -/

/-- The later of two records by the seq of their selected slots; each is (index, slot bytes). -/
def laterRecord (a b : Option (Nat × List Byte)) : Option (Nat × List Byte) :=
  match a, b with
  | some x, some y => if seqLater (recSeq y.2) (recSeq x.2) then b else a
  | some _, none => a
  | none, _ => b

/-- The latest record among indices below n that satisfies p. -/
def Tidemark.latest (m : Tidemark) (p : List Byte → Bool) : Nat → Option (Nat × List Byte)
  | 0 => none
  | n + 1 =>
    laterRecord (m.latest p n) (match m.record n with
      | some bs => if p bs then some (n, bs) else none
      | none => none)

/-- Number of records below index n with a correct slot. -/
def Tidemark.count (m : Tidemark) : Nat → Nat
  | 0 => 0
  | n + 1 => m.count n + b2n (m.record n).isSome

/-- Record a is later than record b where both exist; a missing b counts as earlier. -/
def laterThan (a b : Option (Nat × List Byte)) : Bool :=
  match a, b with
  | some x, some y => seqLater (recSeq x.2) (recSeq y.2)
  | some _, none => true
  | none, _ => false

end Sys2Proof.Machine
end

