-- ==== Sys2Proof/Machine/Commands.lean ====
section
/-!
DEFINITION. Queue control, completion, gates and waits, preemption, global and host signals, waiters (R162-R189, R197-R216),
and what a configuration epoch does to a die's queues.
-/
namespace Sys2Proof.Machine

open Sys2Proof

/-- The epoch that a function's queues are bound to (R187, R346). -/
def State.epochOf (s : State) : Fn → Word
  | .die d => s.dies[d].cmdBlk[4]
  | .pf => s.reg R.CFG_EPOCH

/-- CMD_QSTALE as stored is updated for queue q; INT_STATUS.qstale on a bit that sets. -/
def State.setQstale (s : State) (d : Die) (q : QIdx) (b : Bool) : State :=
  let w := s.dies[d].cmdBlk[13]
  let s' := s.modDie d (fun x => { x with cmdBlk := x.cmdBlk.set 13 (setBit w q.val b) })
  if b && !bitAt w q.val then s'.dieInt d 3 else s'

/-! ### Queue control (R188) -/

/-- A Q_CTRL command or a write that the queue's state does not allow (R164, R188). -/
def State.ctrlIgnored (s : State) (fn : Fn) (q : QIdx) : State := s.modQueue fn q (fun x => { x with ctrlIgnored := true })

/-- A ring address in a peer or twin window (R164). -/
def inWindow (a : Nat) : Bool := decide (0x800000000000 ≤ a)

/-- The queue's CMD_QERR bit clears: it is no longer halted by an error. -/
def State.clearQerr (s : State) (fn : Fn) (q : QIdx) : State :=
  match fn with | .die d => s.setQerr d q false | .pf => s

/-- The queue's CMD_QSTALE bit clears: it is bound to the current epoch. -/
def State.clearQstale (s : State) (fn : Fn) (q : QIdx) : State :=
  match fn with | .die d => s.setQstale d q false | .pf => s

/-- ENABLE (R164, R187, R188): the queue is neither stale nor halted by an error any more. -/
def State.enableQueue (s : State) (fn : Fn) (q : QIdx) : State :=
  let x := s.queue fn q
  if x.state ≠ 0 then s.ctrlIgnored fn q
  else if inWindow x.ringBase || inWindow x.cplBase then s.modQueue fn q (fun x => { x with badRing := true })
  else ((s.modQueue fn q (fun x =>
    { x with state := 1, stale := false, head := 0, tail := 0, cplHead := 0, cplTail := 0, errPos := 0, errStatus := 0,
             epoch := s.epochOf fn, next := 0, listOpen := false, listDue := none, inSlot := false, bells := [], live := [] })).clearQstale fn q).clearQerr fn q

/-- DISABLE (R188, R201, R210). -/
def State.disableQueue (s : State) (fn : Fn) (q : QIdx) : State :=
  let x := s.queue fn q
  if x.state = 1 ∨ x.state = 2 then
    let s := s.modQueue fn q (fun x => { x.dropUnstarted with state := 3 })
    ((s.clearQerr fn q).leaveSlot fn q).modQueue fn q Queue.drained
  else s.ctrlIgnored fn q

/-- RESUME (R188): the queue runs from Q_HEAD. -/
def State.resumeQueue (s : State) (fn : Fn) (q : QIdx) : State :=
  if (s.queue fn q).state = 2 then
    (s.modQueue fn q (fun x => { x with state := 1, errPos := 0, errStatus := 0, cplFault := false,
                                        next := if x.live.isEmpty then x.head else x.next })).clearQerr fn q
  else s.ctrlIgnored fn q

/-- REBIND (R187, R188). -/
def State.rebindQueue (s : State) (fn : Fn) (q : QIdx) : State :=
  let x := s.queue fn q
  if x.state = 1 ∨ x.state = 2 then
    let s := s.modQueue fn q (fun x => { x with epoch := s.epochOf fn, stale := false,
                                                next := if x.live.isEmpty then x.head else x.next })
    s.clearQstale fn q
  else s.ctrlIgnored fn q

/-- RESET (R188): the commands up to Q_TAIL are dropped without records or signals; what follows starts a new list. -/
def State.resetQueue (s : State) (fn : Fn) (q : QIdx) : State :=
  if (s.queue fn q).state = 2 then
    let s := s.modQueue fn q (fun x =>
      { x with state := 1, stale := false, head := x.tail, next := x.tail, epoch := s.epochOf fn, errPos := 0, errStatus := 0,
               listOpen := false, listDue := none, bells := [], live := [] })
    (s.clearQstale fn q).clearQerr fn q
  else s.ctrlIgnored fn q

/-- A write to the ring and completion registers and Q_CFG (R164), by register offset. -/
def State.configQueue (s : State) (fn : Fn) (q : QIdx) (off : Nat) (val : Word) : State :=
  let lo (b : Nat) := b / 2 ^ 32 * 2 ^ 32 + val.toNat / 4096 * 4096
  let hi (b : Nat) := field val 15 0 * 2 ^ 32 + b % 2 ^ 32
  if (s.queue fn q).state ≠ 0 then s.ctrlIgnored fn q
  else s.modQueue fn q (fun x =>
    if off = 0x00 then { x with ringBase := lo x.ringBase }
    else if off = 0x04 then { x with ringBase := hi x.ringBase }
    else if off = 0x08 then
      (if 6 ≤ field val 4 0 ∧ field val 4 0 ≤ 16 then { x with ringLog := field val 4 0 } else x)
    else if off = 0x0C then { x with cplBase := lo x.cplBase }
    else if off = 0x10 then { x with cplBase := hi x.cplBase }
    else if off = 0x14 then
      (if 4 ≤ field val 4 0 ∧ field val 4 0 ≤ 16 then { x with cplLog := field val 4 0 } else x)
    else if off = 0x18 then
      { x with cls := field val 1 0, vector := field val 12 2, waitTimeout := field val 23 16 }
    else x)

/-- ENABLE. -/
def execEnable (fn : Fn) (q : QIdx) (s : State) : Host.Outcome State Fault Refusal :=
  .next (if s.reachable fn then s.enableQueue fn q else s.portUr fn)

/-- DISABLE. -/
def execDisable (fn : Fn) (q : QIdx) (s : State) : Host.Outcome State Fault Refusal :=
  .next (if s.reachable fn then s.disableQueue fn q else s.portUr fn)

/-- RESUME. -/
def execResume (fn : Fn) (q : QIdx) (s : State) : Host.Outcome State Fault Refusal :=
  .next (if s.reachable fn then s.resumeQueue fn q else s.portUr fn)

/-- REBIND. -/
def execRebind (fn : Fn) (q : QIdx) (s : State) : Host.Outcome State Fault Refusal :=
  .next (if s.reachable fn then s.rebindQueue fn q else s.portUr fn)

/-- RESET. -/
def execReset (fn : Fn) (q : QIdx) (s : State) : Host.Outcome State Fault Refusal :=
  .next (if s.reachable fn then s.resetQueue fn q else s.portUr fn)

/-- QUEUE_CONFIG_WRITE. -/
def execQueueConfigWrite (fn : Fn) (q : QIdx) (off : Nat) (val : Word) (s : State) : Host.Outcome State Fault Refusal :=
  .next (if s.reachable fn then s.configQueue fn q off val else s.portUr fn)

/-- CMD_DESC_BASE written (R176). -/
def State.writeDescBase (s : State) (d : Die) (high : Bool) (val : Word) : State :=
  if (List.finRange 32).all (fun q => s.dies[d].queues[q].state = 0) then
    s.modDie d (fun x => { x with
      cmdBlk := if high then x.cmdBlk.set 6 (setField 0 15 0 (field val 15 0)) else x.cmdBlk.set 5 (setField val 11 0 0) })
  else (s.modDie d (fun x => { x with cmdBlk := x.cmdBlk.set 15 (setBit x.cmdBlk[15] 0 true) })).dieInt d 6

/-- CMD_DESC_BASE_WRITE (R176). -/
def execCmdDescBaseWrite (d : Die) (high : Bool) (val : Word) (s : State) : Host.Outcome State Fault Refusal :=
  .next (if s.reachable (.die d) then s.writeDescBase d high val else s.portUr (.die d))

/-- The host has consumed records up to index val: slots are free again, so that the queue's commands may advance (R181). -/
def State.consumed (s : State) (fn : Fn) (q : QIdx) (val : Word) : State :=
  (s.modQueue fn q (fun x => { x with cplHead := val })).settle fn

/-- CPL_HEAD_WRITE (R181). -/
def execCplHeadWrite (fn : Fn) (q : QIdx) (val : Word) (s : State) : Host.Outcome State Fault Refusal :=
  .next (if s.reachable fn then s.consumed fn q val else s.portUr fn)

/-! ### Completion (R174, R181-R186, R204, R205) -/

/-- The status with which a SIGNAL of the command fails, and the state after it has taken effect or been sent (R212-R214). -/
def State.sendSignal (s : State) (fn : Fn) (obj sig : Nat) : Nat × Word × State :=
  if obj = 511 then (stOk, 0, s)
  else if obj < 256 then
    match fn with
    | .die d => (stOk, 0, s.signalOwn d obj sig)
    | .pf => (stOk, 0, s)
  else
    let h := homeOf (obj - 256)
    if s.dies[h].power ≥ 5 then
      let (loc, s) := s.freeLoc
      (stPeerUnavail, loc, s)
    else match fn with
      | .die d =>
        if h = d then (stOk, 0, s.signalOwn d obj sig)
        else if !s.dies[d].linkUp[linkTo d h] then (stLinkDown, s.loc 0 d.val 7 (linkTo d h).val, s)
        else (stOk, 0, s.modDie d (fun x => { x with sigOut := x.sigOut ++ [(obj - 256, sig)] }))
      | .pf => (stOk, 0, { s with pf := { s.pf with sigOut := s.pf.sigOut ++ [(obj - 256, sig)] } })

/-- DUE_BY at the record: the decoded gate, none where the counter is invalid (R173, R204). -/
def Live.due (l : Live) (c : Option DWord) : Option DWord :=
  match c with
  | some t => some (l.dueBy.getD (decodeGate (header l.bytes).dueBy (stampFrame t)))
  | none => none

/-- due_met: the record's raster time is at or before DUE_BY (R204). -/
def Live.dueMet (l : Live) (c : Option DWord) : Bool :=
  match c, l.due c with
  | some t, some g => (header l.bytes).dueValid && decide (t.toNat ≤ g.toNat)
  | _, _ => false

/-- Raster generation of a function (R51, R181). -/
def State.genOf (s : State) : Fn → Nat
  | .die d => s.dies[d].rasGen
  | .pf => s.fld R.RAS_GEN 15 0

/-- Result field of the record; PANEL commands put a refusal's reason into bits 31:24 (R348, R349). -/
def Live.resultWord (l : Live) : Nat := l.result % 2 ^ 32 + l.reason * 2 ^ 24

/-- The 32 bytes of a completion record (R181, R182, R349). -/
def State.recordBytes (s : State) (fn : Fn) (l : Live) (q : Queue) (busy : Nat) : List Byte :=
  let h := header l.bytes
  let c := s.counter fn
  let phase := q.cplTail.toNat / 2 ^ q.cplLog % 2 = 0
  let flags := b2n h.dueValid + 2 * b2n (l.dueMet c) + 4 * b2n (0 < l.splits) + 8 * b2n (0 < l.preempts)
    + 16 * b2n l.restart + 32 * b2n h.listEnd + 64 * b2n c.isSome + 128 * b2n phase
  leBytes 8 ((c.map BitVec.toNat).getD 0) ++ leBytes 4 l.pos.toNat ++ leBytes 2 l.status ++ leBytes 1 h.opcode
    ++ leBytes 1 flags ++ leBytes 4 l.location.toNat ++ leBytes 4 l.resultWord ++ leBytes 2 (s.genOf fn)
    ++ (match fn with
        | .die _ => leBytes 1 (satAt 255 l.splits) ++ leBytes 1 (satAt 255 l.preempts) ++ leBytes 4 (satAt 0xFFFFFFFF busy)
        | .pf => leBytes 1 l.slotUsed ++ leBytes 1 l.bandUsed ++ leBytes 4 l.frames)

/-- WEIR_MISS counts a record with due_valid 1 and due_met 0 (R205). -/
def State.countMiss (s : State) (fn : Fn) (cls : Nat) (l : Live) : State :=
  match fn with
  | .pf => s
  | .die d =>
    let c := s.counter fn
    if !(header l.bytes).dueValid || l.dueMet c then s
    else
      let (hi, lo) := if c.isNone then (23, 16) else if cls = 0 then (7, 0) else (15, 8)
      let w := s.dies[d].weirBlk[4]
      let s := s.modDie d (fun x => { x with weirBlk := x.weirBlk.set 4 (setField w hi lo (satAt 255 (field w hi lo + 1))) })
      if cls = 0 then s.weirAlert d 0 else s

/-- A message on the vector of queue q (R183). -/
def State.queueMsix (s : State) (fn : Fn) (v : Nat) : State :=
  match fn with | .die d => s.dieMsix d v | .pf => s.pfMsix v

/-- A checkpoint command that completes with OK is reported; the flag on any other command is ignored (R387, R388). -/
def State.checkpoint (s : State) (fn : Fn) (q : QIdx) (l : Live) : State :=
  let h := header l.bytes
  if !h.checkpoint then s
  else
    let is := decide (fnEngine fn q = .page) && decide (256 ≤ h.signalObj ∧ h.signalObj ≤ 319)
      && decide (s.fld R.PAIR_STATE 2 0 = 2) && s.agreed 2
    if !is then s.alert R.PAIR_ALERT 10
    else match fn with
      | .die d =>
        if l.status = stOk then
          (s.bridgeEvent d (.checkpoint h.signalValue (!s.dies[d].shadowFailed))).modDie d (fun x => { x with shadowFailed := false })
        else s
      | .pf => s

/-- A SHADOW that ended with a status other than OK spoils the die's next checkpoint report (R388). -/
def State.noteShadow (s : State) (fn : Fn) (l : Live) : State :=
  match fn with
  | .die d => if (header l.bytes).opcode = 0x36 ∧ l.status ≠ stOk then s.modDie d (fun x => { x with shadowFailed := true }) else s
  | .pf => s

/-- The deadline of a list whose first command l failed: its decoded DUE_BY, decoded now if it had not been (R199); a command that could
not be read gives none. -/
def Queue.noteDue (q : Queue) (l : Live) (c : Option DWord) : Queue :=
  if !l.first ∨ l.status = stOk ∨ l.status = stStale ∨ l.status = stCancelled then q
  else { q with listDue := if l.status ≠ stRingFault ∧ (header l.bytes).dueValid then l.due c else none }

/-- The first command of the queue leaves it (R168, R185, R187), with the doorbells that Q_HEAD has reached. -/
def Queue.consume (q : Queue) (l : Live) : Queue :=
  if l.status = stStale ∨ l.status = stCancelled then
    { q with live := q.live.drop 1, next := q.head, listOpen := !l.first }
  else
    let head := l.pos + 1
    { q with live := q.live.drop 1, head := head,
             bells := q.bells.filter (fun b => decide (0 < (b.1 - head).toNat) && decide ((b.1 - head).toNat ≤ (q.tail - head).toNat)) }

/-- COMMAND_COMPLETE: steps 6 and 7 of the first command, whose execution has ended or failed (R174). R181 lets a command start only
while a record slot is free; one that started before an earlier record took the last slot waits for the host to consume one (DEDUCED,
assumption log 59). Where the record cannot be written, the queue halts at the command with its own status (OK included) in
Q_ERR_STATUS and CMD_QERR set, as at any halt (DESIGN CHOICE, assumption log 56). -/
def State.complete (s : State) (fn : Fn) (q : QIdx) (busy : Nat) (recordOk : Bool) : State :=
  match (s.queue fn q).live with
  | [] => s
  | l :: _ =>
    let h := header l.bytes
    if l.phase ≠ .ended ∨ ((h.cpl ∨ h.listEnd ∨ l.status ≠ stOk) ∧ (s.queue fn q).full) then s
    else
      -- step 6
      let (st, loc, s) := if l.status = stOk then s.sendSignal fn h.signalObj h.signalValue else (l.status, l.location, s)
      let l := { l with status := st, location := loc }
      let s := s.noteShadow fn l
      -- step 7
      let x := s.queue fn q
      let write := h.cpl || h.listEnd || decide (l.status ≠ stOk)
      let a := x.cplBase + 32 * (x.cplTail.toNat % 2 ^ x.cplLog)
      let fails := write && (!recordOk || decide (s.accessStatus fn false a 32 ≠ stOk))
      if fails then
        let s := (s.modQueue fn q (fun y => { y with cplFault := true })).halt fn q l.pos l.status
        let s := s.modQueue fn q (fun y => { y with live := y.live.drop 1, next := y.head, listOpen := !l.first })
        let s := (s.queueMsix fn x.vector).modQueue fn q Queue.drained
        match fn with | .die d => (s.releaseFrames d).settle fn | .pf => s.settle fn
      else
        let bytes := s.recordBytes fn l x busy
        let s := if write then
            (((s.storeN fn false a bytes false).postUp fn false a 32 false (fun _ => false)).modQueue fn q
              (fun y => { y with cplTail := y.cplTail + 1 })).countMiss fn x.cls l
          else s
        let s := s.checkpoint fn q l
        let s := if h.irq || decide (l.status ≠ stOk) then s.queueMsix fn x.vector else s
        let s := if l.status = stOk ∨ l.status = stStale ∨ l.status = stCancelled then s else s.halt fn q l.pos l.status
        let s := s.modQueue fn q (fun y => (y.noteDue l (s.counter fn)).consume l)
        let s := if write && h.listEnd && decide (l.status ≠ stStale) && decide (l.status ≠ stCancelled) then s.leaveSlot fn q else s
        let s := s.modQueue fn q Queue.drained
        match fn with | .die d => (s.releaseFrames d).settle fn | .pf => s.settle fn

/-- The function can write records: a die above Dusk; the Prilliner running. -/
def State.completes (s : State) : Fn → Bool
  | .die d => decide (s.dies[d].power ≤ 2)
  | .pf => s.prilRuns

/-! ### Waits, ageing, preemption -/

/-- The first waiting command of a queue whose limit has run out while its turn has come, by place (R175). -/
def timedOut (fn : Fn) (timeout : Nat) : Nat → Bool → List Live → Option Nat
  | _, _, [] => none
  | n, turn, l :: ls =>
    if turn && decide (l.phase = .waiting) && decide (timeout ≠ 0 ∧ timeout ≤ l.marks) then some n
    else timedOut fn timeout (n + 1)
      (turn && l.issued fn && (match ls with | m :: _ => (header m.bytes).overlap | [] => false)) ls

/-- WAIT_TIMEOUT (R175): the mark that completes the count has arrived. -/
def execWaitTimeout (fn : Fn) (q : QIdx) (s : State) : Host.Outcome State Fault Refusal :=
  let x := s.queue fn q
  .next (match timedOut fn x.waitTimeout 0 true x.live with
    | some n => s.modQueue fn q (fun y => y.modLive n (fun l => { l with phase := .ended, status := stWaitTimeout }))
    | none => s)

/-- WEIR_AGEING (R197): a head that stayed eligible while WEIR_CTRL.age marks arrived is served one class higher. -/
def execWeirAgeing (d : Die) (q : QIdx) (s : State) : Host.Outcome State Fault Refusal :=
  let x := s.dies[d].queues[q]
  let age := field s.dies[d].weirBlk[0] 7 0
  .next (match x.eligibleAt with
    | some (n, l) => if x.cls ≠ 0 ∧ age ≠ 0 ∧ age ≤ l.ageMarks then
        s.modQueue (.die d) q (fun y => y.modLive n (fun l => { l with aged := true })) else s
    | none => s)

/-- An URGENT command of the slot is eligible on engine e of die d (R194, R209). -/
def State.urgentEligible (s : State) (d : Die) (e : Engine) : Bool :=
  (s.eligible d e).any (fun p => p.2.1 == 0)

/-- The command of a queue that is in a phase, changed. -/
def Queue.modPhase (q : Queue) (p : Phase) (f : Live → Live) : Queue :=
  { q with live := q.live.map (fun l => if l.phase = p then f l else l) }

/-- PREEMPTION (R209): at the end of a step, or at a stall on a page miss, a non-URGENT command yields its engine to an eligible command
of the slot (R207). -/
def State.preempt (s : State) (d : Die) (e : Engine) : State :=
  let en := s.dies[d].engines[engineIdx e]
  match en.running with
  | none => s
  | some q =>
    let stalled := s.dies[d].queues[q].live.any (fun l => decide (l.phase = .running ∧ l.stall = 1))
    if s.dies[d].queues[q].cls ≠ 0 ∧ e ≠ .panel ∧ s.urgentEligible d e ∧ en.saved.isNone ∧ (en.boundary ∨ stalled) then
      let w := s.dies[d].weirBlk[5]
      let s := s.modDie d (fun x =>
        { x with engines := x.engines.set (engineIdx e) { en with running := none, saved := some q, boundary := false },
                 weirBlk := x.weirBlk.set 5 (setField w 15 0 (satAt 0xFFFF (field w 15 0 + 1))) })
      s.modQueue (.die d) q (fun x => x.modPhase .running (fun l => { l with phase := .preempted, preempts := l.preempts + 1 }))
    else s

/-- PREEMPTION. -/
def execPreemption (d : Die) (eng : Engine) (s : State) : Host.Outcome State Fault Refusal :=
  .next (if s.dieRuns d then s.preempt d eng else s)

/-- PREEMPT_RESTORE (R209): no slot command is eligible, so the saved command resumes. -/
def execPreemptRestore (d : Die) (eng : Engine) (s : State) : Host.Outcome State Fault Refusal :=
  let en := s.dies[d].engines[engineIdx eng]
  .next (match en.saved with
    | none => s
    | some q =>
      if s.dieRuns d ∧ eng ≠ .panel ∧ en.running.isNone ∧ !s.urgentEligible d eng then
        (s.modDie d (fun x =>
          { x with engines := x.engines.set (engineIdx eng) { en with running := some q, saved := none, boundary := false } })).modQueue (.die d) q
          (fun x => x.modPhase .preempted (fun l => { l with phase := .running }))
      else s)

/-! ### Signals, waiters, captures -/

/-- GLOBAL_SIGNAL (R212-R214): the oldest global signal of a function arrives at its home die; one whose home is in Midnight is
lost. -/
def execGlobalSignal (src : Fn) (s : State) : Host.Outcome State Fault Refusal :=
  let arrive (s : State) (g sig : Nat) : State :=
    if s.dies[homeOf g].power < 5 then s.signalOwn (homeOf g) (256 + g) sig else s
  .next (match src with
    | .die d => (match s.dies[d].sigOut with
      | [] => s
      | (g, sig) :: rest => arrive (s.modDie d (fun x => { x with sigOut := rest })) g sig)
    | .pf => (match s.pf.sigOut with
      | [] => s
      | (g, sig) :: rest => arrive { s with pf := { s.pf with sigOut := rest } } g sig))

/-- GLOBAL_NOTIFY (R213, R346): the home die tells a function the value of a global object; a die that its links do not reach is
not told (R214). -/
def execGlobalNotify (g : Fin 64) (dst : Fn) (s : State) : Host.Outcome State Fault Refusal :=
  let h := homeOf g.val
  .next (if s.dies[h].power ≥ 5 then s.settle dst
    else match dst with
      | .die d =>
        if s.dies[d].power < 5 ∧ (h = d ∨ s.dies[h].linkUp[linkTo h d]) then
          (s.modDie d (fun x => { x with seen := SMap.set 0 x.seen g.val (s.homed g.val) })).settle dst
        else s
      | .pf => { s with pf := { s.pf with seen := SMap.set 0 s.pf.seen g.val (s.homed g.val) } }.settle dst)

/-- A host SIGNAL of an object (R212, R215): the object becomes the larger of its value and v, whose low half is then the value last
written to SYNC_SIG_LO. -/
def State.hostSignal (s : State) (d : Die) (obj : Nat) (v : DWord) : State :=
  (s.modDie d (fun x => { x with sigLo := SMap.set 0 x.sigLo obj (v.setWidth 32) })).raiseOwn d obj v

/-- HOST_SIGNAL (R212, R215). An object that the die's window does not hold is none of its registers. -/
def execHostSignal (d : Die) (obj : BitVec 9) (v : DWord) (s : State) : Host.Outcome State Fault Refusal :=
  .next (if s.reachable (.die d) then (if (s.ownObj d obj.toNat).isSome then s.hostSignal d obj.toNat v else s) else s.portUr (.die d))

/-- A read of SYNC_VAL_LO captures the whole value, each object for itself (R215; assumption log 69). -/
def State.captureObj (s : State) (d : Die) (obj : Nat) : State :=
  match s.ownObj d obj with
  | some v => s.modDie d (fun x => { x with objCap := SMap.set 0 x.objCap obj v })
  | none => s

/-- SYNC_VAL_CAPTURE (R215): a host read of SYNC_VAL_LO, which returns the low half. -/
def execSyncValCapture (d : Die) (obj : BitVec 9) (s : State) : Host.Outcome State Fault Refusal :=
  .next (if s.reachable (.die d) then
      let s := s.captureObj d obj.toNat
      { s with out := { s.out with resp := .ok (leBytes 4 (((s.ownObj d obj.toNat).getD 0).toNat)) } }
    else { s.portUr (.die d) with out := { s.out with resp := if s.switchOn then .ur else .none } })

/-- A write to SW_CTRL of waiter w (R216). -/
def State.writeWaiter (s : State) (d : Die) (w : Fin 32) (ctrl : Word) : State :=
  let obj := field ctrl 8 0
  let arm := bitAt ctrl 31 && (s.ownObj d obj).isSome
  let s := s.modDie d (fun x =>
    { x with waiters := x.waiters.set w { x.waiters[w] with
        obj := obj, vector := field ctrl 19 9, fired := x.waiters[w].fired && !bitAt ctrl 30, armed := arm } })
  if arm then s.fireWaiter d w else s

/-- WAITER_ARM (R216). -/
def execWaiterArm (d : Die) (w : Fin 32) (ctrl : Word) (s : State) : Host.Outcome State Fault Refusal :=
  .next (if s.reachable (.die d) then s.writeWaiter d w ctrl else s.portUr (.die d))

/-! ### The configuration epoch (R187) -/

/-- The commands of queue q in execution are cut with STALE_EPOCH and the restart flag; their partial writes remain. -/
def State.cutStale (s : State) (d : Die) (q : QIdx) (all : Bool) : State :=
  let n := (s.dies[d].queues[q].live.zipIdx.filter (fun p =>
    decide (p.1.phase = .preempted) || (all && decide (p.1.phase = .running)))).map (·.2)
  n.foldl (fun s i => (s.cut d q i stStale 0).modQueue (.die d) q (fun x => x.modLive i (fun l => { l with restart := true }))) s

/-- Queue q of die d is marked stale (R187, R201, R210): a running COMPUTE or COPY command is cut where `cutRunning` says that its engine
is at a step boundary; a preempted command of any engine ends without being restored; a running PAGE command runs on. -/
def State.markStaleQueue (s : State) (d : Die) (q : QIdx) (cutRunning : Bool) : State :=
  let x := s.dies[d].queues[q]
  let s := (s.modQueue (.die d) q (fun x => { x.dropUnstarted with stale := true })).setQstale d q true
  let s := s.cutStale d q (cutRunning && decide (engineOf q ≠ .page))
  if x.inSlot then s.leaveSlot (.die d) q else s

/-- The die takes a new epoch: every enabled queue bound to another one is marked stale (R187). Engines at a step boundary have
their commands cut now; the others at their next one. -/
def State.takeEpoch (s : State) (d : Die) (e : Word) (boundary : Engine → Bool) : State :=
  let s := s.modDie d (fun x => { x with cmdBlk := x.cmdBlk.set 4 e })
  (List.finRange 32).foldl (fun (s : State) (q : QIdx) =>
    let x := s.dies[d].queues[q]
    if decide (x.state ≠ 0) && decide (x.epoch ≠ e) && !x.stale then s.markStaleQueue d q (boundary (engineOf q)) else s) s

/-- No stale queue of the die has a command in execution (R187). A COMPUTE or COPY command that has been cut is out of execution; a PAGE
command runs to completion first. -/
def State.quiesced (s : State) (d : Die) : Bool :=
  (List.finRange 32).all fun q => !s.dies[d].queues[q].stale ||
    s.dies[d].queues[q].live.all (fun l => !(decide (l.phase = .running) || decide (l.phase = .preempted)
      || (decide (engineOf q = .page) && decide (l.phase = .ended ∧ l.status ≠ stStale))))

/-- QUIESCE_REPORT (R90, R187): the die's queues bound to an older epoch are quiesced against the newest epoch. -/
def execQuiesceReport (d : Die) (s : State) : Host.Outcome State Fault Refusal :=
  .next (if s.dies[d].power < 5 ∧ s.dies[d].cmdBlk[4] = s.reg R.CFG_EPOCH ∧ s.quiesced d
    then s.putBit R.CFG_STATUS (4 + d.val) false else s)

/-- The PANEL queues bound to an older epoch go stale at a COMMIT (R346); their commands run to completion. -/
def State.stalePanel (s : State) : State :=
  { s with pf := { s.pf with queues := s.pf.queues.map (fun q =>
      if q.state ≠ 0 ∧ q.epoch ≠ s.reg R.CFG_EPOCH ∧ !q.stale then { q.dropUnstarted with stale := true } else q) } }

end Sys2Proof.Machine
end

