-- ==== Sys2Proof/Machine/Panel.lean ====
section
/-!
DEFINITION. The storyboard panel (13_panel_drive) and the energy rule (R363-R367): pixel words, waveforms, temperature bands,
update slots, scanned frames, DC balance and Park, the PANEL commands, and the grant of slots.
-/
namespace Sys2Proof.Machine

open Sys2Proof

/-! ### Pixels (R329) -/

/-- A pixel word that nothing has written since power-on reset: level 15, target 15, balance-unknown (R330). -/
abbrev pixelReset : Word := 0x800000FF#32

/-- Place of pixel (x, y) in pixel state (assumption log 20). -/
def pixelKey (x y : Nat) : Nat := y * 4096 + x
def keyX (k : Nat) : Nat := k % 4096
def keyY (k : Nat) : Nat := k / 4096

def State.pixel (s : State) (k : Nat) : Word := SMap.get pixelReset s.pnl.pixels k
def State.setPixel (s : State) (k : Nat) (w : Word) : State :=
  { s with pnl := { s.pnl with pixels := SMap.set pixelReset s.pnl.pixels k w } }

def pxCur (w : Word) : Nat := field w 3 0
def pxTgt (w : Word) : Nat := field w 7 4
def pxFi (w : Word) : Nat := field w 15 8
def pxSlot (w : Word) : Nat := field w 19 16
def pxValid (w : Word) : Bool := bitAt w 20
def pxPend (w : Word) : Bool := bitAt w 21
def pxPtgt (w : Word) : Nat := field w 25 22
def pxClass (w : Word) : Nat := field w 27 26
def pxDcb (w : Word) : Nat := field w 31 28
def pxUnknown (w : Word) : Bool := decide (pxDcb w = 8)

/-- dcb_add (R339) on 4-bit codes. -/
def dcbAdd (d : Nat) (n : Int) : Nat :=
  if d = 8 then 8
  else
    let v := signedOf 4 d + n
    if v < -7 ∨ 7 < v then 8 else codeOf 4 v

/-- Panel width and height (PNL_SIZE). -/
def State.pnlW (s : State) : Nat := s.fld R.PNL_SIZE 12 0
def State.pnlH (s : State) : Nat := s.fld R.PNL_SIZE 26 16

/-- A pixel lies within PNL_SIZE. -/
def State.onPanel (s : State) (k : Nat) : Bool := decide (keyX k < s.pnlW) && decide (keyY k < s.pnlH)

/-- PNL_UNBALANCED: balance-unknown pixels within PNL_SIZE (R330). -/
def State.unbalanced (s : State) : Nat :=
  s.pnlW * s.pnlH - (s.pnl.pixels.filter (fun p => s.onPanel p.1 && !pxUnknown p.2)).length

/-- The listed pixel words changed by f; the canonical form is kept. -/
def State.mapPixels (s : State) (f : Nat → Word → Word) : State :=
  { s with pnl := { s.pnl with pixels := s.pnl.pixels.filterMap (fun p =>
      let w := f p.1 p.2
      if w = pixelReset then none else some (p.1, w)) } }

/-- The pending target is taken or dropped: pend and ptgt read 0, as in the worked example of chapter 13. -/
def dropPend (w : Word) : Word := setField (setBit w 21 false) 25 22 0

/-- The pixel's transition is abandoned and its balance is unknown (R344). -/
def abandon (w : Word) : Word :=
  if pxValid w then
    dropPend (setBit (setField (setField (setField w 31 28 8) 7 4 (pxCur w)) 15 8 0) 20 false)
  else w

/-- Pixels in flight. -/
def State.inFlight (s : State) : Nat := (s.pnl.pixels.filter (fun p => pxValid p.2)).length

/-- Pixels in flight whose balance is known, so that abandoning them makes them balance-unknown (R344). -/
def State.newlyUnknown (s : State) : Nat := (s.pnl.pixels.filter (fun p => pxValid p.2 && !pxUnknown p.2)).length

/-! ### The waveform store (R331) -/

/-- Entry index (R331). -/
def entryIdx (band hclass old new : Nat) : Nat := band * 1024 + hclass * 256 + old * 16 + new

/-- Length of an entry of mode m. -/
def State.wfLen (s : State) (m i : Nat) : Nat := (s.pnl.wave.read (m * 0x100000 + 0xF0000 + i)).toNat
/-- Net drive of an entry in units of 16 frames. -/
def State.wfNet (s : State) (m i : Nat) : Int := signedOf 8 (s.pnl.wave.read (m * 0x100000 + 0xF4000 + i)).toNat
/-- Drive code of an entry in frame f: 0 HOLD, 1 DARKEN, 2 LIGHTEN, 3 FLOAT. -/
def State.wfCode (s : State) (m i f : Nat) : Nat :=
  (s.pnl.wave.read (m * 0x100000 + 4096 * f + i / 4)).toNat / 4 ^ (i % 4) % 4

/-- DARKEN codes minus LIGHTEN codes of an entry in frames below n. -/
def State.wfSum (s : State) (m i : Nat) : Nat → Int
  | 0 => 0
  | n + 1 =>
    let c := s.wfCode m i n
    s.wfSum m i n + (if c = 1 then 1 else if c = 2 then -1 else 0)

/-- The mode is valid (PNL_WF_STATUS). -/
def State.wfValid (s : State) (m : Nat) : Bool := s.bit R.PNL_WF_STATUS m

/-- Lmax(m, b): the largest length of mode m in band b (R364). -/
def State.lmax (s : State) (m b : Nat) : Nat :=
  (List.range 1024).foldl (fun acc i => max acc (s.wfLen m (b * 1024 + i))) 0

/-! ### Temperature bands (R334-R337) -/

def State.bandUsed (s : State) (b : Nat) : Bool := s.bit (R.PNL_BAND0 + b) 31
def State.bandLo (s : State) (b : Nat) : Nat := s.fld (R.PNL_BAND0 + b) 9 0
def State.bandHi (s : State) (b : Nat) : Nat := s.fld (R.PNL_BAND0 + b) 25 16

/-- The used bands. -/
def State.bands (s : State) : List Nat := (List.range 16).filter s.bandUsed

/-- The used band that contains code t. -/
def State.bandAt (s : State) (t : Nat) : Option Nat := s.bands.find? (fun b => decide (s.bandLo b ≤ t) && decide (t < s.bandHi b))

/-- How far code t lies outside band b. -/
def State.bandGap (s : State) (t b : Nat) : Nat :=
  if t < s.bandLo b then s.bandLo b - t else if s.bandHi b ≤ t then t + 1 - s.bandHi b else 0

/-- The used band nearest code t (R337). -/
def State.nearestBand (s : State) (t : Nat) : Option Nat := pickMin (fun b => (s.bandGap t b, s.bandLo b)) s.bands

/-- A code is a temperature (R116). -/
def codeValid (c : Nat) : Bool := decide (c ≠ 0) && decide (c ≠ 0x3FF)

/-- The panel temperature and its source after a scan of the tray group (R336): none where it is not valid. Channel 263 is valid only
where nothing stands in for it, as for a channel whose lead failed (R132, R133). -/
def State.panelTemp (s : State) : Option (Nat × Bool) :=
  let n := s.thm.chans[264].eff
  let b := s.thm.chans[263]
  if codeValid n then some (n, false)
  else
    let last := s.fld R.PNL_TEMP_SRC 25 16
    if s.bit R.PNL_TEMP_SRC 0 && codeValid b.raw && !b.subst && decide (b.raw ≤ last + 32) && decide (last ≤ b.raw + 32) then
      some (b.eff, true)
    else none

/-- BAND_SELECT (R335, R336). -/
def State.selectBand (s : State) : State :=
  let n := s.thm.chans[264].eff
  let s := if codeValid n then (s.setFld R.PNL_TEMP_SRC 25 16 n).putBit R.PNL_TEMP_SRC 1 false
    else (s.alert R.PNL_ALERT 2).putBit R.PNL_TEMP_SRC 1 true
  let was := s.bit R.PNL_TEMP 14
  match s.panelTemp with
  | none => ((s.putBit R.PNL_TEMP 14 false).putBit R.PNL_STATUS 5 false)
  | some (t, x) =>
    let s := if x && !s.bit R.PNL_STATUS 5 then s.alert R.PNL_ALERT 4 else s
    let s := ((s.putBit R.PNL_STATUS 5 x).setFld R.PNL_TEMP 9 0 t).putBit R.PNL_TEMP 15 x
    let cur := s.fld R.PNL_TEMP 13 10
    let stays := was && s.bandUsed cur && decide (s.bandLo cur ≤ t + 2) && decide (t < s.bandHi cur + 2)
    if stays then s
    else match s.bandAt t with
      | some b =>
        { (s.setFld R.PNL_TEMP 13 10 b).putBit R.PNL_TEMP 14 true with pnl := { s.pnl with bandSelected := some b } }
      | none => (s.alert R.PNL_ALERT 3).putBit R.PNL_TEMP 14 false

/-- The band of a Park (R337); none where no band is in use. -/
def State.parkBand (s : State) : Option Nat :=
  if s.bands.isEmpty then none
  else if s.bit R.PNL_TEMP 14 then some (s.fld R.PNL_TEMP 13 10)
  else match s.panelTemp with
    | some (t, _) => s.nearestBand t
    | none => match s.pnl.bandSelected with
      | some b => some b
      | none => pickMin (fun b => (s.bandLo b, b)) s.bands

/-! ### Slots (R338) -/

/-- Slot n. -/
def State.slotAt (s : State) (n : Nat) : Slot := s.pnl.slots[n]?.getD Slot.free
def State.setSlot (s : State) (n : Nat) (x : Slot) : State :=
  { s with pnl := { s.pnl with slots := s.pnl.slots.setIfInBounds n x } }

/-- A pixel lies in a rectangle. -/
def inRect (k x y w h : Nat) : Bool :=
  decide (x ≤ keyX k) && decide (keyX k < x + w) && decide (y ≤ keyY k) && decide (keyY k < y + h)

def Slot.holds (z : Slot) (k : Nat) : Bool := inRect k z.x z.y z.w z.h

/-- Two rectangles overlap. -/
def overlap (x y w h x' y' w' h' : Nat) : Bool :=
  decide (x < x' + w') && decide (x' < x + w) && decide (y < y' + h') && decide (y' < y + h)

/-- The most recently started active slot whose rectangle contains the pixel (R338). -/
def State.newestSlot (s : State) (k : Nat) : Option Nat :=
  ((List.range 16).filter (fun n => (s.slotAt n).active && (s.slotAt n).holds k)).foldl
    (fun best n => match best with
      | none => some n
      | some b => if (s.slotAt b).order < (s.slotAt n).order then some n else some b) none

/-- A pixel belongs to slot n (R338). -/
def State.belongs (s : State) (n : Nat) (p : Nat × Word) : Bool :=
  (pxValid p.2 && decide (pxSlot p.2 = n)) || (pxPend p.2 && decide (s.newestSlot p.1 = some n))

/-- No pixel belongs to slot n. -/
def State.slotEmpty (s : State) (n : Nat) : Bool := !(s.pnl.pixels.any (s.belongs n))

/-- Keys of the pixels of a rectangle, row-major. -/
def rectKeys (x y w h : Nat) : List Nat :=
  (List.range h).flatMap fun j => (List.range w).map fun i => pixelKey (x + i) (y + j)

/-- The modes that drive every pixel of the rectangle (R332). -/
def drivesAll (m : Nat) : Bool := decide (m ∈ [0, 1, 4, 5, 6])

/-- A mode drives a pixel from one level to another (R332). -/
def modeDrives (m cur t : Nat) : Bool := drivesAll m || decide (cur ≠ t)

/-- A level of the trip card (R368): black glyphs on white. -/
def Slot.cardLevel (z : Slot) (k : Nat) : Nat :=
  let i := keyX k - z.x
  let j := keyY k - z.y
  let c := (z.text.getD (j / 32) []).getD (i / 16) 0x20
  if c ≠ 0x20 ∧ Config.glyph c (i % 16) (j % 32) then 0 else 15

/-- The 4-bit image level of a pixel for a slot (R347). -/
def State.imageLevel (s : State) (z : Slot) (k : Nat) : Nat :=
  match z.owner with
  | .tripCard => z.cardLevel k
  | _ =>
    let i := keyX k - z.x
    let b := (s.pnl.work.read (z.addr + (keyY k - z.y) * z.stride + i / 2)).toNat
    if i % 2 = 0 then b % 16 else b / 16

/-- Target of a pixel under a slot's mode (R332). -/
def State.target (s : State) (z : Slot) (k : Nat) (w : Word) : Nat :=
  if z.mode = 0 then 15
  else if z.mode = 2 then (if 8 ≤ s.imageLevel z k then 15 else 0)
  else if z.mode = 4 then (if pxValid w then pxTgt w else pxCur w)
  else s.imageLevel z k

/-- First phase of a Park with work left for a pixel: 3 unwind, 0 final (R342). -/
def parkNext (w : Word) : Nat := if pxDcb w = 0 ∨ pxUnknown w then 0 else 3

/-- The pixel enters a Park phase. -/
def parkEnter (w : Word) (n phase fi : Nat) : Word :=
  setField (setBit (setBit (setField (setField (setField w 19 16 n) 15 8 fi) 7 4 (pxCur w)) 20 true) 21 false) 25 22 phase

/-- A pixel at the first frame of slot n (R338, R342). -/
def State.startPixel (s : State) (n : Nat) (k : Nat) : State :=
  let z := s.slotAt n
  let w := s.pixel k
  if z.mode = 5 then
    s.setPixel k (parkEnter w n (parkNext w) 0)
  else
    let t := s.target z k w
    if pxValid w then s.setPixel k (setField (setBit w 21 true) 25 22 t)
    else if modeDrives z.mode (pxCur w) t then
      s.setPixel k (setField (setBit (setField (setField w 7 4 t) 15 8 0) 20 true) 19 16 n)
    else s

/-- Slot n starts: it latches its band and its pixels are handled (R335, R338). -/
def State.startSlot (s : State) (n : Nat) : State :=
  let z := s.slotAt n
  let band := if z.mode = 5 then s.parkBand.getD 0 else s.fld R.PNL_TEMP 13 10
  let left := if z.mode = 5 then 112 + s.lmax 5 band else s.lmax z.mode band
  let s := s.setSlot n { z with active := true, band := band, order := s.pnl.nextOrder, left := left }
  let s := { s with pnl := { s.pnl with nextOrder := s.pnl.nextOrder + 1 } }
  (rectKeys z.x z.y z.w z.h).foldl (fun s k => s.startPixel n k) s

/-- Slots granted and not started start at this frame start. -/
def State.startGranted (s : State) : State :=
  (List.range 16).foldl (fun (s : State) n => if (s.slotAt n).granted && !(s.slotAt n).active then s.startSlot n else s) s

/-! ### A scanned frame (R339, R342) -/

/-- What one frame does to a pixel in transition: its word, the code driven, and whether its run for its slot has ended. -/
structure Driven where
  word : Word
  code : Option Nat
  ended : Bool

/-- The pixel goes on to the next Park phase that has work, or to the end of a phase with none. -/
def parkStep (w : Word) (phase : Nat) : Word := setField (setField w 25 22 phase) 15 8 0

/-- A Park pixel in one frame (R342). One that has become balance-unknown skips to the final phase. -/
def State.parkFrame (s : State) (z : Slot) (w : Word) : Driven :=
  let w := if pxUnknown w ∧ pxPtgt w ≠ 0 then parkStep w 0 else w
  let ph := pxPtgt w
  let fi := pxFi w
  if ph = 1 ∨ ph = 2 then
    let w' := if fi ≤ 1 then parkStep w (parkNext w) else setField w 15 8 (fi - 1)
    { word := w', code := some ph, ended := false }
  else if ph = 3 then
    let d := signedOf 4 (pxDcb w)
    let code := if 0 < d then 2 else 1
    if fi + 1 < 16 then { word := setField w 15 8 (fi + 1), code := some code, ended := false }
    else
      let d' := if 0 < d then d - 1 else d + 1
      let w := setField (setField w 31 28 (codeOf 4 d')) 15 8 0
      { word := if d' = 0 then parkStep w 0 else w, code := some code, ended := false }
  else
    let i := entryIdx z.band (pxClass w) (pxCur w) (pxCur w)
    let len := s.wfLen 5 i
    let code := if fi < len then some (s.wfCode 5 i fi) else none
    if fi + 1 < len then { word := setField w 15 8 (fi + 1), code := code, ended := false }
    else
      { word := setField (setField (setBit (setField w 31 28 0) 20 false) 15 8 0) 7 4 (pxCur w), code := code, ended := true }

/-- The pending target of a pixel that has just ended its transition (R339). -/
def State.takePending (s : State) (k : Nat) (w : Word) : Word :=
  if pxPend w then
    let w' := dropPend w
    match s.newestSlot k with
    | some n =>
      if modeDrives (s.slotAt n).mode (pxCur w) (pxPtgt w) then
        setField (setBit (setField w' 7 4 (pxPtgt w)) 20 true) 19 16 n
      else w'
    | none => w'
  else w

/-- A pixel of an update in one frame (R339). -/
def State.updateFrame (s : State) (z : Slot) (k : Nat) (w : Word) : Driven :=
  let i := entryIdx z.band (pxClass w) (pxCur w) (pxTgt w)
  let len := s.wfLen z.mode i
  let code := if pxFi w < len then some (s.wfCode z.mode i (pxFi w)) else none
  if pxFi w + 1 < len then { word := setField w 15 8 (pxFi w + 1), code := code, ended := false }
  else
    let w := setBit (setField (setField (setField w 31 28 (dcbAdd (pxDcb w) (s.wfNet z.mode i))) 3 0 (pxTgt w)) 15 8 0) 20 false
    { word := s.takePending k w, code := code, ended := true }

/-- One frame of a listed pixel. -/
def State.pixelFrame (s : State) (k : Nat) (w : Word) : Driven :=
  if pxValid w then
    let z := s.slotAt (pxSlot w)
    if z.mode = 5 then s.parkFrame z w else s.updateFrame z k w
  else { word := w, code := none, ended := false }

/-- A slot's counts after a frame: a frame driven, its remaining bound, and the pixels whose run ended; the Parks of a stopped
update count for nothing (R349). -/
def State.countFrame (s : State) (before : SMap Word) (n : Nat) : State :=
  let z := s.slotAt n
  if !z.active then s
  else
    let ended := (before.filter (fun p => pxValid p.2 && decide (pxSlot p.2 = n) && (s.pixelFrame p.1 p.2).ended)).length
    s.setSlot n { z with frames := z.frames + 1, left := z.left - 1, done := z.done + (if z.stop = 0 then ended else 0) }

/-- Every pixel in transition is driven one frame, and every other pixel gets PNL_CTRL.idle_code (R328, R339, R342). -/
def State.driveFrame (s : State) : State :=
  let before := s.pnl.pixels
  let runs := before.map (fun p => (p.1, s.pixelFrame p.1 p.2))
  let unknown := before.any (fun p => !pxUnknown p.2 && pxUnknown (s.pixelFrame p.1 p.2).word)
  let drive : SMap Nat := runs.filterMap (fun r => r.2.code.map (fun c => (r.1, c + 1)))
  let pixels := runs.filterMap (fun r => if r.2.word = pixelReset then none else some (r.1, r.2.word))
  let s := (List.range 16).foldl (fun (s : State) n => s.countFrame before n) s
  let idle := if s.bit R.PNL_CTRL 1 then 3 else 0
  let s := { s with pnl := { s.pnl with pixels := pixels, drive := drive, idle := some idle, frameNo := s.pnl.frameNo + 1 } }
  s.alertIf unknown R.PNL_ALERT 5

/-- The controller stops driving. -/
def State.stopDriving (s : State) : State := { s with pnl := { s.pnl with drive := [], idle := none } }

/-- The measurement scans one of its frames, in which every source drives HOLD (R353). -/
def State.measureFrame (s : State) : State :=
  if s.hv.measured < s.fld R.HV_KICKBACK 3 0 then
    { s with pnl := { s.pnl with drive := [], idle := some 0, frameNo := s.pnl.frameNo + 1 },
             hv := { s.hv with measured := s.hv.measured + 1 } }
  else s.stopDriving

/-! ### Stops (R343, R344) -/

/-- A pixel of a stopped update becomes a Park pixel of the same slot (R343). -/
def State.stopPixel (s : State) (k : Nat) (w : Word) : Word :=
  let _ := k
  let z := s.slotAt (pxSlot w)
  if pxValid w ∧ z.mode ≠ 5 then
    let p := s.wfSum z.mode (entryIdx z.band (pxClass w) (pxCur w) (pxTgt w)) (pxFi w)
    let phase := if pxUnknown w ∨ p = 0 then parkNext w else if 0 < p then 2 else 1
    parkEnter w (pxSlot w) phase (if pxUnknown w then 0 else p.natAbs)
  else if pxPend w then dropPend w else w

/-- Every active update is stopped and Parked at the end of this frame (R343); `reason` 7 or 8. -/
def State.stopUpdates (s : State) (reason : Nat) : State :=
  if (List.range 16).any (fun n => (s.slotAt n).active && decide ((s.slotAt n).mode ≠ 5)) then
    let pixels := s.pnl.pixels.filterMap (fun p =>
      let w := s.stopPixel p.1 p.2
      if w = pixelReset then none else some (p.1, w))
    let s := (List.range 16).foldl (fun (s : State) n =>
      let z := s.slotAt n
      if z.active ∧ z.mode ≠ 5 then
        s.setSlot n { z with mode := 5, stop := reason, left := s.lmax z.mode z.band + 112 + s.lmax 5 z.band }
      else s) s
    let s := { s with pnl := { s.pnl with pixels := pixels } }
    s.alertIf (decide (reason = 7)) R.PNL_ALERT 0
  else s

/-- The running command of a PANEL queue that owns slot n ends (R349). -/
def State.endPanel (s : State) (q : Fin 4) (n st reason result frames band : Nat) : State :=
  let s := s.modQueue .pf (Fin.ofNat 32 q.val) (fun x =>
    { x with live := x.live.map (fun l =>
        if l.phase = .running ∧ l.slotUsed = n then
          { l with phase := .ended, status := st, reason := reason, result := min result 0xFFFFFF, frames := frames,
                   bandUsed := band }
        else l) })
  s.alertIf (decide (st ≠ stOk)) R.PNL_ALERT 9

/-- Slot n has ended: its owner learns, and the slot is free (R340, R343, R344). `fault` is the reason of an HV fault, or 0. -/
def State.endSlot (s : State) (n fault : Nat) : State :=
  let z := s.slotAt n
  let reason := if fault ≠ 0 then fault else z.stop
  let s := { s.setSlot n Slot.free with hv := { s.hv with idleAt := s.now } }
  match z.owner with
  | .none => s
  | .queue q => s.endPanel q n (if reason = 0 then stOk else stNotSupported) reason z.done z.frames z.band
  | .parkAll => s.alertIf (decide (reason = 0)) R.PNL_ALERT 7
  | .tripCard =>
    if reason = 0 then
      { (s.setFld R.HV_TRIPCARD 30 29 2).alert R.HV_ALERT 6 with tm := { s.tm with cardFlag := true } }
    else (s.setFld R.HV_TRIPCARD 30 29 3).alert R.HV_ALERT 7

/-- Slots that no pixel belongs to end (R340). -/
def State.endSlots (s : State) : State :=
  (List.range 16).foldl (fun (s : State) n => if (s.slotAt n).active && s.slotEmpty n then s.endSlot n 0 else s) s

/-- An HV fault during a scanned frame (R344): pixels in flight become balance-unknown and every slot ends. -/
def State.hvAbort (s : State) : State :=
  if (List.range 16).any (fun n => (s.slotAt n).active) then
    let unknown := decide (0 < s.newlyUnknown)
    let s := s.mapPixels (fun _ w => if pxValid w then abandon w else if pxPend w then dropPend w else w)
    let s := (List.range 16).foldl (fun (s : State) n => if (s.slotAt n).active then s.endSlot n 3 else s) s
    (s.alertIf unknown R.PNL_ALERT 5).alert R.PNL_ALERT 1
  else s

/-! ### The energy rule (R363-R367), in pJ -/

/-- E_avail as a fraction (R363): numerator and denominator; (0, 1) when V_eff is below 9.0 V or nothing was sampled. -/
def State.availFrac (s : State) : Nat × Nat :=
  let n := s.sup.vres.length
  let v := 99 * s.sup.vres.sum - 500 * n
  let floor := 90000 * n
  if n = 0 ∨ v < floor then (0, 1) else (s.fld R.HV_RES_CAP 9 0 * (v * v - floor * floor), 20 * n * n)

/-- Energy model entry (mode, band): base in uJ per frame and px in pJ per pixel per frame (R364). -/
def State.emodel (s : State) (m b : Nat) : Nat × Nat :=
  let w := s.hv.emodel[m * 16 + b]?.getD 0
  (field w 15 0, field w 31 16)

/-- Energy of f frames over d pixels, pJ (R364). -/
def State.frameEnergy (s : State) (m b f d : Nat) : Nat :=
  let (base, px) := s.emodel m b
  f * base * 1000000 + d * f * px

/-- PNL_SCAN.rate. -/
def State.scanRate (s : State) : Nat := s.fld R.PNL_SCAN 6 0

/-- The rails are UP. -/
def State.railsUp (s : State) : Bool := decide (s.fld R.HV_STATUS 2 0 = 2)

/-- The Prilliner runs from VRES. -/
def State.onVres (s : State) : Bool := s.bit R.SUP_STATUS 5

/-- The Prilliner term for f frames, in pJ times the scan rate (R365). -/
def State.prilEnergy (s : State) (raising : Bool) (f : Nat) : Nat :=
  if s.onVres then 400000000000 * f + (if raising then 5600000000 * s.scanRate else 0) else 0

/-- The need of an update of mode m over d pixels in band b, in pJ times the scan rate (R365). -/
def State.updateNeed (s : State) (m b d : Nat) : Nat :=
  let drive := s.lmax m b
  let park := drive + 112 + s.lmax 5 b
  let raising := !s.railsUp
  (s.frameEnergy m b drive d + s.frameEnergy 5 b park d + (if raising then 10000000000 else 0)) * s.scanRate
    + s.prilEnergy raising (drive + park)

/-- The need of a Park over d pixels. -/
def State.parkNeed (s : State) (b d : Nat) : Nat :=
  let f := 112 + s.lmax 5 b
  let raising := !s.railsUp
  (s.frameEnergy 5 b f d + (if raising then 10000000000 else 0)) * s.scanRate + s.prilEnergy raising f

/-- The commitment of an active slot, pJ times the scan rate (R365, R367). -/
def State.slotNeed (s : State) (z : Slot) : Nat :=
  if !z.active then
    (if !z.granted then 0
     else if z.mode = 5 then s.parkNeed (s.parkBand.getD 0) z.driven else s.updateNeed z.mode (s.fld R.PNL_TEMP 13 10) z.driven)
  else if z.mode = 5 then s.frameEnergy 5 z.band z.left z.driven * s.scanRate + s.prilEnergy false z.left
  else
    let park := s.lmax z.mode z.band + 112 + s.lmax 5 z.band
    (s.frameEnergy z.mode z.band z.left z.driven + s.frameEnergy 5 z.band park z.driven) * s.scanRate
      + s.prilEnergy false (z.left + park)

/-- The sum of the commitments, pJ times the scan rate. -/
def State.committed (s : State) : Nat := (List.range 16).foldl (fun acc n => acc + s.slotNeed (s.slotAt n)) 0

/-- An amount (pJ times the scan rate) is at most E_avail. -/
def State.covers (s : State) (need : Nat) : Bool :=
  let (n, d) := s.availFrac
  decide (need * d ≤ n * s.scanRate)

/-- An amount is more than E_avail at a full reservoir (R366). -/
def State.neverCovers (s : State) (need : Nat) : Bool :=
  decide (s.fld R.HV_RES_CAP 9 0 * 2405820500 * s.scanRate < need)

/-! ### PANEL commands -/

/-- The body of a PANEL command (R347). -/
structure PanelBody where
  x : Nat
  y : Nat
  w : Nat
  h : Nat
  mode : Nat
  addr : Nat
  stride : Nat
  deriving DecidableEq, Repr

/-- The fields of a PANEL command; a whole-panel PARK takes the whole panel (R347). -/
def State.panelBody (s : State) (bs : List Byte) : PanelBody :=
  let b := bs.drop 16
  let whole := decide (byteAt bs 0 = 0x41) && decide (byteAt b 8 = 1)
  if whole then { x := 0, y := 0, w := s.pnlW, h := s.pnlH, mode := 5, addr := 0, stride := 0 }
  else { x := leAt b 0 2, y := leAt b 2 2, w := leAt b 4 2, h := leAt b 6 2,
         mode := if byteAt bs 0 = 0x41 then 5 else byteAt b 8, addr := leAt b 12 4, stride := leAt b 16 4 }

/-- The status of a PANEL body (R347, R348). -/
def State.panelBodyStatus (s : State) (bs : List Byte) : Nat :=
  let b := bs.drop 16
  let op := byteAt bs 0
  let zero (from' to' : Nat) := decide (leAt b from' (to' - from') = 0)
  let rest := zero 9 12 && zero 20 48
  let rectOk := decide (1 ≤ leAt b 4 2) && decide (1 ≤ leAt b 6 2) && decide (leAt b 0 2 + leAt b 4 2 ≤ s.pnlW)
    && decide (leAt b 2 2 + leAt b 6 2 ≤ s.pnlH)
  let w := leAt b 4 2
  let m := byteAt b 8
  let addr := leAt b 12 4
  let stride := leAt b 16 4
  let ok :=
    if op = 0x40 then rest && rectOk && decide (m ≤ 7 ∧ m ≠ 5)
      && (if m = 0 ∨ m = 4 then decide (addr = 0 ∧ stride = 0) else decide ((w + 1) / 2 ≤ stride))
    else if op = 0x41 then rest && zero 12 20 && decide (m ≤ 1) && (if m = 1 then zero 0 8 else rectOk)
    else if op = 0x42 then rest && rectOk && decide (m = 0) && decide ((w + 3) / 4 ≤ stride)
    else if op = 0x43 then rest && zero 0 8 && decide (m ≤ 7) && decide (addr % 4096 = 0) && decide (stride = 0)
    else if op = 0x44 then rest && rectOk && decide (m = 0) && decide (addr % 4 = 0) && decide (4 * w ≤ stride) && decide (stride % 4 = 0)
    else zero 0 48
  if ok then stOk else stBadBody

/-- First byte after the work SRAM that a command reads or writes (R348); 0 where it touches none. -/
def State.workEnd (s : State) (bs : List Byte) : Nat :=
  let p := s.panelBody bs
  let op := byteAt bs 0
  let last (row : Nat) := p.addr + (p.h - 1) * p.stride + row
  if op = 0x40 then (if p.mode = 0 ∨ p.mode = 4 then 0 else last ((p.w + 1) / 2))
  else if op = 0x42 then last ((p.w + 3) / 4)
  else if op = 0x43 then p.addr + 999424
  else if op = 0x44 then last (4 * p.w)
  else 0

/-- A pixel of the rectangle is balance-unknown. -/
def State.rectUnknown (s : State) (x y w h : Nat) : Bool := (rectKeys x y w h).any (fun k => pxUnknown (s.pixel k))

/-- The reason with which a PANEL command is refused, 0 for none (R348); where several hold, the lowest code. The latch is judged at step 4
alone; the other causes also when an update that waits at step 5 is about to start (R337, R344). -/
def State.panelRefusal (s : State) (step4 : Bool) (bs : List Byte) : Nat :=
  let op := byteAt bs 0
  let p := s.panelBody bs
  let drives := decide (op = 0x40 ∨ op = 0x41)
  if drives && !s.wfValid p.mode then 1
  else if op = 0x40 ∧ !s.bit R.PNL_TEMP 14 then 2
  else if op = 0x41 ∧ s.parkBand.isNone then 2
  else if drives && step4 && s.bit R.HV_FAULT 15 then 3
  else if op = 0x40 ∧ s.rectUnknown p.x p.y p.w p.h then 4
  else if op ≠ 0x00 ∧ !s.bit R.PNL_CTRL 0 then 5
  else 0

/-- An active slot overlaps a rectangle. -/
def State.activeOverlap (s : State) (x y w h : Nat) (parkOnly : Bool) : Bool :=
  (List.range 16).any fun n =>
    let z := s.slotAt n
    (z.active || z.granted) && (!parkOnly || decide (z.mode = 5)) && overlap x y w h z.x z.y z.w z.h

/-- A command waits at step 4 (R341): PARK, HISTORY and READ_STATE while an active slot overlaps, WAVEFORM_LOAD while a slot uses
its mode. -/
def State.panelWaits (s : State) (bs : List Byte) : Bool :=
  let p := s.panelBody bs
  let op := byteAt bs 0
  if op = 0x41 ∨ op = 0x42 ∨ op = 0x44 then s.activeOverlap p.x p.y p.w p.h false
  else if op = 0x43 then (List.range 16).any (fun n =>
    ((s.slotAt n).active || (s.slotAt n).granted) && decide ((s.slotAt n).mode = p.mode))
  else false

/-- The PANEL commands that have had to wait and have not completed (R341). -/
def State.waiters (s : State) : List Live :=
  (List.finRange 4).flatMap (fun q => s.pf.queues[q].live.filter (fun l => decide (l.stall = 1) && decide (l.phase ≠ .ended)))

/-- A waiting command holds the slot request z, which came after it: by its rectangle, or a WAVEFORM_LOAD by its mode (R341). -/
def State.holds341 (s : State) (z : Slot) (l : Live) : Bool :=
  let p := s.panelBody l.bytes
  decide (l.stamp < z.order)
    && (if byteAt l.bytes 0 = 0x43 then decide (p.mode = z.mode) else overlap z.x z.y z.w z.h p.x p.y p.w p.h)

/-- A slot request is held by commands that waited before it, the whole-panel Park of PNL_CMD among them; an update by an active Park, and a
Park by any active slot (R341). -/
def State.heldBy341 (s : State) (z : Slot) : Bool :=
  s.waiters.any (s.holds341 z)
    || (s.pnl.parkAllWaits && decide (s.pnl.parkAllAt < z.order) && overlap z.x z.y z.w z.h 0 0 s.pnlW s.pnlH)
    || s.activeOverlap z.x z.y z.w z.h (decide (z.mode ≠ 5))

/-- A free slot. -/
def State.freeSlot (s : State) : Option Nat := (List.range 16).find? (fun n => !(s.slotAt n).granted && !(s.slotAt n).active)

/-- What stands between an update and step 5 (R347, R366). -/
inductive Verdict where
  | grant (n : Nat)
  | wait        -- R341
  | noSlot
  | waitRails
  | energyHold
  | never
  deriving DecidableEq, Repr

/-- The pixels an update drives (R332), for its energy need. -/
def State.drivenPixels (s : State) (z : Slot) : Nat :=
  if drivesAll z.mode then z.w * z.h
  else ((rectKeys z.x z.y z.w z.h).filter (fun k => modeDrives z.mode (pxCur (s.pixel k)) (s.target z k (s.pixel k)))).length

/-- The need of a waiting update or Park. -/
def State.needOf (s : State) (z : Slot) : Nat :=
  if z.mode = 5 then s.parkNeed (s.parkBand.getD 0) z.driven else s.updateNeed z.mode (s.fld R.PNL_TEMP 13 10) z.driven

/-- The verdict on a slot request (R347, R366). -/
def State.verdict (s : State) (z : Slot) : Verdict :=
  let need := s.needOf z
  if s.neverCovers need then .never
  else if s.heldBy341 z then .wait
  else if !s.covers (s.committed + need) then .energyHold
  else match s.freeSlot with
    | none => .noSlot
    | some n => if s.railsUp then .grant n else .waitRails

/-- The slot request of a PANEL command; one that waits has its place among the commands that wait, any other comes after them all. -/
def State.requestOf (s : State) (q : Fin 4) (l : Live) : Slot :=
  let p := s.panelBody l.bytes
  let z := { Slot.free with owner := .queue q, mode := p.mode, x := p.x, y := p.y, w := p.w, h := p.h, addr := p.addr,
                            stride := p.stride, order := if l.stall = 1 then l.stamp else s.pnl.nextOrder }
  { z with driven := s.drivenPixels z }

/-- The whole-panel Park of PNL_CMD (R350). -/
def State.parkAllRequest (s : State) : Slot :=
  { Slot.free with owner := .parkAll, mode := 5, x := 0, y := 0, w := s.pnlW, h := s.pnlH, order := s.pnl.parkAllAt, driven := s.pnlW * s.pnlH }

/-- The trip card's request: all 65,536 pixels counted as driven (R369). -/
def State.cardRequest (s : State) : Slot :=
  { Slot.free with owner := .tripCard, mode := 2, x := s.fld R.HV_TRIPCARD 12 0, y := s.fld R.HV_TRIPCARD 25 16, w := 512,
                   h := 128, driven := 65536, order := s.pnl.nextOrder, text := s.hv.cardText }

/-- A slot is granted: it starts at the next frame start (R347). The pixels it drives are those of its grant (R365). -/
def State.grantSlotTo (s : State) (n : Nat) (z : Slot) : State :=
  s.setSlot n { z with granted := true, driven := if z.mode = 5 then z.w * z.h else z.driven }

/-- The slot command of a PANEL queue that waits at step 5, with its place (R347). -/
def State.panelHead (s : State) (q : Fin 4) : Option (Nat × Live) :=
  if s.pf.queues[q].state = 1 ∧ s.pf.queues[q].stale = false ∧ s.pf.queues[q].full = false then
    (s.pf.queues[q].live.zipIdx.find? (fun p => decide (p.1.phase = .eligible) || decide (p.1.phase = .held))).map
      (fun p => (p.2, p.1))
  else none

/-- The PANEL queues in the order of grants: class, then number (R347). -/
def State.panelOrder (s : State) : List (Fin 4) :=
  (List.range 4).flatMap fun c => (List.finRange 4).filter fun q => decide (s.pf.queues[q].cls = c)

/-- A slot command: UPDATE or PARK. -/
def slotOpcode (op : Nat) : Bool := decide (op = 0x40 ∨ op = 0x41)

/-- The command at place i of PANEL queue q changed. -/
def State.modPanel (s : State) (q : Fin 4) (i : Nat) (f : Live → Live) : State :=
  s.modQueue .pf (Fin.ofNat 32 q.val) (fun x => x.modLive i f)

/-- A PANEL command begins to wait for active slots, and holds new updates until it completes (R341). -/
def State.panelStall (s : State) (q : Fin 4) (i : Nat) : State :=
  match s.pf.queues[q].live[i]? with
  | some l =>
    if l.stall = 1 then s
    else { s.modPanel q i (fun l => { l with stall := 1, stamp := s.pnl.nextOrder }) with
             pnl := { s.pnl with nextOrder := s.pnl.nextOrder + 1 } }
  | none => s

/-- A PANEL command is refused with a reason (R348). -/
def State.refusePanel (s : State) (q : Fin 4) (i reason : Nat) : State :=
  (s.modPanel q i (fun l => { l with phase := .ended, status := stNotSupported, reason := reason })).alert R.PNL_ALERT 9

/-- Some byte of work SRAM from a on holds an uncorrectable error (R405). -/
def State.workPoisoned (s : State) (a n : Nat) : Bool := (s.firstPoison .pf false a n).isSome

/-- A slot request reads an image, and some byte of it holds an uncorrectable error (R405). -/
def State.imagePoisoned (s : State) (z : Slot) : Bool :=
  decide (z.mode ≠ 0 ∧ z.mode ≠ 4 ∧ z.mode ≠ 5)
    && (List.range z.h).any (fun j => s.workPoisoned (z.addr + j * z.stride) ((z.w + 1) / 2))

/-- The command is not, or no longer, held by the energy rule. -/
def State.unhold (s : State) (q : Fin 4) (i : Nat) : State :=
  s.modPanel q i (fun l => if l.phase = .held then { l with phase := .eligible } else l)

/-- The slot command of queue q is granted, held or refused (R347, R348, R366); an UPDATE that reads an uncorrectable error of work SRAM
ends with MEM_UE (R405). -/
def State.grantPanel (s : State) (q : Fin 4) : State :=
  match s.panelHead q with
  | none => s
  | some (i, l) =>
    if !slotOpcode (byteAt l.bytes 0) then s
    else if s.panelRefusal false l.bytes ≠ 0 then s.refusePanel q i (s.panelRefusal false l.bytes)
    else
      let z := s.requestOf q l
      match s.verdict z with
      | .grant n =>
        if s.imagePoisoned z then s.modPanel q i (fun l => { l with phase := .ended, status := stMemUe })
        else (s.grantSlotTo n z).modPanel q i (fun l => { l with phase := .running, slotUsed := n })
      | .wait => if z.mode = 5 ∧ s.activeOverlap z.x z.y z.w z.h false then (s.unhold q i).panelStall q i else s.unhold q i
      | .noSlot => s.unhold q i
      | .waitRails => (s.unhold q i).putBit R.PNL_STATUS 3 true
      | .energyHold => (s.putBit R.PNL_STATUS 4 true).modPanel q i (fun l => { l with phase := .held })
      | .never => s.refusePanel q i 6

/-- Queue q's slot command is held by the energy rule. -/
def State.heldHead (s : State) (q : Fin 4) : Bool :=
  match s.panelHead q with | some (_, l) => decide (l.phase = .held) | none => false

/-- A command that the energy rule holds on another queue blocks the class of queue q (R347). -/
def State.blocked347 (s : State) (q : Fin 4) : Bool :=
  (List.finRange 4).any (fun p => decide (p ≠ q) && s.heldHead p && decide (s.pf.queues[p].cls ≤ s.pf.queues[q].cls))

/-- The Prilliner's own whole-panel Park is granted or held (R347, R350). -/
def State.grantParkAll (s : State) : State :=
  if !s.pnl.parkAllWaits || s.activeOverlap 0 0 s.pnlW s.pnlH false then s
  else
    let z := s.parkAllRequest
    match s.verdict z with
    | .grant n => (s.grantSlotTo n z).setFld R.PNL_STATUS 3 3 0 |> fun s => { s with pnl := { s.pnl with parkAllWaits := false } }
    | .wait => s
    | .noSlot => s
    | .waitRails => s.putBit R.PNL_STATUS 3 true
    | .energyHold => s.putBit R.PNL_STATUS 4 true
    | .never => { s.alert R.PNL_ALERT 9 with pnl := { s.pnl with parkAllWaits := false } }

/-- Grants to the queues in order; a command held by the energy rule blocks its class and the lower ones (R347). -/
def State.grantQueues (s : State) (qs : List (Fin 4)) : State :=
  qs.foldl (fun (s : State) q => if s.blocked347 q then s else s.grantPanel q) s

/-- The trip card still waits to be drawn or for its grant. -/
def State.cardPending (s : State) : Bool := s.hv.cardWaits && s.hv.cardRecord.isSome

/-- The trip card is skipped (R369). -/
def State.skipCard (s : State) : State :=
  { (s.setFld R.HV_TRIPCARD 30 29 3).alert R.HV_ALERT 7 with hv := { s.hv with cardWaits := false } }

/-- The conditions of R369 other than the energy rule; the card is an update other than Park, so that it also needs a band (R337; DEDUCED,
assumption log 67). -/
def State.cardAllowed (s : State) : Bool :=
  s.bit R.HV_TRIPCARD 28 && s.bit R.HV_CTRL 0 && !s.bit R.HV_FAULT 15 && s.wfValid 2 && s.bit R.PNL_TEMP 14
    && decide (s.fld R.HV_TRIPCARD 12 0 + 512 ≤ s.pnlW) && decide (s.fld R.HV_TRIPCARD 25 16 + 128 ≤ s.pnlH)

/-- The card of a supply reset waits for the end of the frame and for the Parks of what it stopped (R99). -/
def State.cardAfterPark (s : State) : Bool :=
  decide (s.hv.cardCause = 2)
    && (s.pnl.sagStop || (List.range 16).any (fun n => (s.slotAt n).active && decide ((s.slotAt n).stop = 7)))

/-- The waiting trip card is granted, held or skipped (R369): on VRES, one that the energy rule refuses at its first evaluation is
skipped. -/
def State.grantCard (s : State) : State :=
  if s.cardAfterPark then s
  else if !s.cardAllowed then s.skipCard
  else
    let t : State := { s with hv := { s.hv with cardJudged := true } }
    match s.verdict s.cardRequest with
    | .grant n => { t.grantSlotTo n s.cardRequest with hv := { t.hv with cardWaits := false } }
    | .wait => s
    | .noSlot => t
    | .waitRails => t.putBit R.PNL_STATUS 3 true
    | .energyHold => if !s.hv.cardJudged && s.onVres then t.skipCard else t.putBit R.PNL_STATUS 4 true
    | .never => t.skipCard

/-- Every waiting command and own update is granted as far as R347 allows. -/
def State.grantAll (s : State) : State :=
  let s := (s.putBit R.PNL_STATUS 3 false).putBit R.PNL_STATUS 4 false
  let s := if s.cardPending && !s.hv.cardText.isEmpty then s.grantCard else s
  let s := if s.bit R.PNL_STATUS 4 then s else s.grantParkAll
  if s.bit R.PNL_STATUS 4 then s else s.grantQueues s.panelOrder

/-- Frames counted in the records of commands whose slot is active, which also let an OVERLAP successor start (R346, R349). -/
def State.noteFrames (s : State) : State :=
  { s with pf := { s.pf with queues := s.pf.queues.map (fun x => { x with live := x.live.map (fun l =>
      if l.phase = .running ∧ (s.slotAt l.slotUsed).active then { l with frames := (s.slotAt l.slotUsed).frames } else l) }) } }

/-- Some slot is active. -/
def State.scanning (s : State) : Bool := (List.range 16).any (fun n => (s.slotAt n).active)

/-- PNL_STATUS.state follows enable and the slots: 0 OFF, 1 IDLE, 2 SCANNING, 3 STOPPING. -/
def State.panelState (s : State) : State :=
  let st := if s.bit R.PNL_CTRL 0 then (if s.scanning then 2 else 1) else if s.scanning then 3 else 0
  s.setFld R.PNL_STATUS 2 0 st

/-- The end of a scanned frame: stops (R343, R367), ended slots (R340). -/
def State.frameEnd (s : State) : State :=
  let s := if s.pnl.stopAllReq then s.stopUpdates 8 else s
  let s := if s.pnl.sagStop then s.stopUpdates 7 else s
  let s := { s with pnl := { s.pnl with stopAllReq := false, sagStop := false } }
  let s := s.endSlots
  if !s.covers s.committed then s.stopUpdates 7 else s

/-- PANEL_SCAN_FRAME (R328, R338-R343, R353, R366, R367): at the frame start granted slots start; with a slot active the frame is scanned,
and its end is handled; a measurement scans its own frames; then waiting commands are granted. -/
def State.scanFrame (s : State) : State :=
  let s := s.startGranted
  let s := if s.scanning then s.driveFrame.noteFrames.frameEnd
    else
      let s := if s.fld R.HV_STATUS 2 0 = 6 then s.measureFrame else s.stopDriving
      { s with pnl := { s.pnl with stopAllReq := false, sagStop := false } }
  (s.grantAll.panelState).settle .pf

/-- PANEL_SCAN_FRAME. -/
def execPanelScanFrame (s : State) : Host.Outcome State Fault Refusal :=
  .next (if s.prilRuns && !s.pnl.low then s.scanFrame else s)

/-- UPDATE or PARK at step 5: queue q's command is granted if nothing before it in the order of grants waits for the same
resources (R347). -/
def State.runSlotCommand (s : State) (q : Fin 4) (op : Nat) : State :=
  match s.panelHead q with
  | none => s
  | some (_, l) =>
    let before := s.panelOrder.takeWhile (· ≠ q)
    let blocked := s.blocked347 q || before.any (fun p => (match s.panelHead p with
      | some (_, m) => slotOpcode (byteAt m.bytes 0) && (match s.verdict (s.requestOf p m) with | .grant _ => true | _ => false)
      | none => false))
    if byteAt l.bytes 0 = op ∧ !blocked ∧ !s.cardPending ∧ !s.pnl.parkAllWaits then s.grantPanel q else s

/-- UPDATE (R337, R338, R347, R366). -/
def execUpdate (q : Fin 4) (s : State) : Host.Outcome State Fault Refusal :=
  .next (if s.prilRuns then s.runSlotCommand q 0x40 else s)

/-- PARK (R342, R347, R366). -/
def execPark (q : Fin 4) (s : State) : Host.Outcome State Fault Refusal :=
  .next (if s.prilRuns then s.runSlotCommand q 0x41 else s)

/-- A command of queue q that needs no slot runs: f gives its status, reason, result and state. -/
def State.runPanel (s : State) (q : Fin 4) (op : Nat) (f : State → PanelBody → Nat × Nat × Nat × State) : State :=
  match s.panelHead q with
  | some (i, l) =>
    if byteAt l.bytes 0 = op ∧ s.panelWaits l.bytes then s.panelStall q i
    else if byteAt l.bytes 0 = op then
      let (st, reason, result, s) := f s (s.panelBody l.bytes)
      (s.modPanel q i (fun l => { l with phase := .ended, status := st, reason := reason, result := min result 0xFFFFFF })).alertIf
        (decide (st = stNotSupported)) R.PNL_ALERT 9
    else s
  | none => s

/-- HISTORY's effect: hclass of every pixel of the rectangle (R345). -/
def State.writeHistory (s : State) (p : PanelBody) : Nat × Nat × Nat × State :=
  if (List.range p.h).any (fun j => s.workPoisoned (p.addr + j * p.stride) ((p.w + 3) / 4)) then (stMemUe, 0, 0, s)
  else
    (stOk, 0, p.w * p.h, (rectKeys p.x p.y p.w p.h).foldl (fun s k =>
      let i := keyX k - p.x
      let c := (s.pnl.work.read (p.addr + (keyY k - p.y) * p.stride + i / 4)).toNat / 4 ^ (i % 4) % 4
      s.setPixel k (setField (s.pixel k) 27 26 c)) s)

/-- HISTORY (R345). -/
def execHistory (q : Fin 4) (s : State) : Host.Outcome State Fault Refusal :=
  .next (if s.prilRuns then s.runPanel q 0x42 State.writeHistory else s)

/-- The state words of row j of a rectangle, least significant byte first. -/
def State.stateRow (s : State) (p : PanelBody) (j : Nat) : List Byte :=
  (List.range p.w).flatMap fun i => leBytes 4 (s.pixel (pixelKey (p.x + i) (p.y + j))).toNat

/-- READ_STATE's effect: the state words go to work SRAM, row by row (R347). -/
def State.readState (s : State) (p : PanelBody) : Nat × Nat × Nat × State :=
  (stOk, 0, p.w * p.h, (List.range p.h).foldl (fun (s : State) j =>
    s.storeN .pf false (p.addr + j * p.stride) (s.stateRow p j) false) s)

/-- READ_STATE (R347). -/
def execReadState (q : Fin 4) (s : State) : Host.Outcome State Fault Refusal :=
  .next (if s.prilRuns then s.runPanel q 0x44 State.readState else s)

/-- Every entry of a loaded mode area passes R333. -/
def State.wfAllOk (s : State) (m : Nat) : Bool :=
  (List.range 16384).all fun i =>
    let len := s.wfLen m i
    let net := s.wfSum m i len
    decide (len ≤ 240) && decide (net % 16 = 0) && decide (net.natAbs / 16 ≤ 7)
      && (decide (m ≠ 5) || decide (i / 16 % 16 ≠ i % 16) || decide (net = 0))

/-- WAVEFORM_LOAD's effect (R333): the image is written, every entry is validated, the net table is computed. -/
def State.loadWaveform (s : State) (p : PanelBody) : Nat × Nat × Nat × State :=
  if s.workPoisoned p.addr 999424 then (stMemUe, 0, 0, s)
  else
    let m := p.mode
    let image := s.pnl.work.readN p.addr 999424
    let s := { s with pnl := { s.pnl with wave := s.pnl.wave.writeN (m * 0x100000) image } }
    let ok := s.wfAllOk m
    let nets := (List.range 16384).map (fun i => BitVec.ofNat 8 (codeOf 8 (s.wfSum m i (s.wfLen m i) / 16)))
    let s := { s with pnl := { s.pnl with wave := s.pnl.wave.writeN (m * 0x100000 + 0xF4000) nets } }
    let s := (s.putBit R.PNL_WF_STATUS m ok).putBit R.PNL_WF_STATUS (8 + m) (!ok)
    if ok then (stOk, 0, 0, s) else (stNotSupported, 1, 0, s.alert R.PNL_ALERT 6)

/-- WAVEFORM_LOAD (R333). -/
def execWaveformLoad (q : Fin 4) (s : State) : Host.Outcome State Fault Refusal :=
  .next (if s.prilRuns then s.runPanel q 0x43 State.loadWaveform else s)

/-! ### The Prilliner's own panel commands -/

/-- PNL_CMD PARK_ALL (R350): a whole-panel Park as the Prilliner's own update; refused as a PARK is. -/
def State.parkAll (s : State) : State :=
  if !s.wfValid 5 || s.parkBand.isNone || s.bit R.HV_FAULT 15 || !s.bit R.PNL_CTRL 0 then s.alert R.PNL_ALERT 9
  else if s.pnl.parkAllWaits then s.grantParkAll
  else { s with pnl := { s.pnl with parkAllWaits := true, parkAllAt := s.pnl.nextOrder, nextOrder := s.pnl.nextOrder + 1 } }.grantParkAll

/-- PARK_ALL (R350). -/
def execParkAll (s : State) : Host.Outcome State Fault Refusal := .next s.parkAll

/-- PNL_CMD STOP_ALL (R343). -/
def State.stopAll (s : State) : State := { s with pnl := { s.pnl with stopAllReq := true } }

/-- STOP_ALL (R343): every update is stopped at the end of the current frame. -/
def execStopAll (s : State) : Host.Outcome State Fault Refusal := .next s.stopAll

/-- The geometry fits the scan period (R327). -/
def State.scanFits (s : State) : Bool :=
  decide ((s.pnlH + 1 + s.fld R.PNL_GATE_TIMING 11 4) * (s.pnlW / 8 + s.fld R.PNL_SOURCE_TIMING 15 8)
    * s.fld R.PNL_SCAN 13 8 * s.scanRate ≤ 400000000)

/-- A write to PNL_CTRL at its boundary (R327). -/
def State.writePanelCtrl (s : State) (val : Word) : State :=
  if bitAt val 0 && !s.bit R.PNL_CTRL 0 && !s.scanFits then s.alert R.PNL_ALERT 8
  else ((s.putBit R.PNL_CTRL 0 (bitAt val 0)).putBit R.PNL_CTRL 1 (bitAt val 1)).panelState

/-- PANEL_ENABLE (R327). -/
def execPanelEnable (val : Word) (s : State) : Host.Outcome State Fault Refusal := .next (s.writePanelCtrl val)

/-- The values that PNL_SIZE, PNL_SCAN, PNL_GATE_TIMING and PNL_SOURCE_TIMING accept (R327). -/
def panelRangeOk (a : Nat) (val : Word) : Bool :=
  if a = R.PNL_SIZE then
    decide (8 ≤ field val 12 0 ∧ field val 12 0 ≤ 4096 ∧ field val 12 0 % 8 = 0 ∧ 16 ≤ field val 26 16 ∧ field val 26 16 ≤ 1024)
  else if a = R.PNL_SCAN then
    decide (50 ≤ field val 6 0 ∧ field val 6 0 ≤ 85 ∧ 10 ≤ field val 13 8 ∧ field val 13 8 ≤ 40)
  else if a = R.PNL_GATE_TIMING then decide (1 ≤ field val 1 0)
  else decide (1 ≤ field val 3 0 ∧ 4 ≤ field val 15 8)

/-- A geometry or timing write at its boundary: only while OFF, and within its ranges (R327). -/
def State.writePanelGeometry (s : State) (a : Nat) (val mask : Word) : State :=
  if s.fld R.PNL_STATUS 2 0 ≠ 0 ∨ !panelRangeOk a val then s.alert R.PNL_ALERT 8 else s.setReg a (val &&& mask)

/-- A band write at its boundary (R334). -/
def State.writeBand (s : State) (b : Nat) (val : Word) : State :=
  let lo := field val 9 0
  let hi := field val 25 16
  let clash := s.bands.any (fun c => decide (c ≠ b) && decide (max lo (s.bandLo c) < min hi (s.bandHi c)))
  if bitAt val 31 && (decide (hi ≤ lo) || clash) then s.alert R.PNL_ALERT 8
  else s.setReg (R.PNL_BAND0 + b) (val &&& 0x83FF03FF#32)

end Sys2Proof.Machine
end

