-- ==== Sys2Proof/Machine/Hv.lean ====
section
/-!
DEFINITION. The panel rails and the trip card (14_panel_supplies): rail codes, power-up and power-down, rail faults, the latch
and its re-arm, VRES_LOW, the kick-back measurement, the energy model, and the text of the trip card.
-/
namespace Sys2Proof.Machine

open Sys2Proof

/-! ### Rails (R352, R354) -/

/-- HV_STATUS.state (R354). -/
def State.hvState (s : State) : Nat := s.fld R.HV_STATUS 2 0
def State.setHvState (s : State) (n : Nat) : State := s.setFld R.HV_STATUS 2 0 n

/-- A rail is powered: RAMP_UP, UP, RAMP_DOWN or MEASURE. -/
def State.railsPowered (s : State) : Bool := decide (s.hvState ∈ [1, 2, 3, 6])

/-- Target of rail k in 10 mV under the codes in force (R352); VRES is held at 24.0 V (R362). -/
def State.railTarget (s : State) (k : Nat) : Int :=
  let vpos : Int := 1300 + 5 * s.hv.inForce[0]
  match k with
  | 0 => -1600 - 25 * s.hv.inForce[2]
  | 1 => -vpos
  | 2 => 1800 + 25 * s.hv.inForce[1]
  | 3 => vpos
  | 4 => -30 - s.hv.inForce[3]
  | _ => 2400

/-- The codes of the registers: VPOS, VGH, VGL, VCOM. -/
def State.railCodes (s : State) : Vector Nat 4 :=
  #v[s.fld R.HV_VPOS 5 0, s.fld R.HV_VGH 4 0, s.fld R.HV_VGL 5 0, s.fld R.HV_VCOM 7 0]

/-- The codes of the registers come into force (R352). -/
def State.takeCodes (s : State) : State :=
  { s.putBit R.HV_STATUS 10 false with hv := { s.hv with inForce := s.railCodes } }

/-- Largest code of a rail register (R352). -/
def railCodeMax (a : Nat) : Nat :=
  if a = R.HV_VPOS then 60 else if a = R.HV_VGH then 28 else if a = R.HV_VGL then 32 else 250

/-- A rail code written at its boundary: in force at once while the rails are OFF, else at the next power-up sequence (R352). -/
def State.writeRailCode (s : State) (a : Nat) (val : Word) : State :=
  let code := if a = R.HV_VPOS ∨ a = R.HV_VGL then field val 5 0 else if a = R.HV_VGH then field val 4 0 else field val 7 0
  if railCodeMax a < code then s.alert R.HV_ALERT 8
  else
    let s := s.setReg a (BitVec.ofNat 32 code)
    let i := if a = R.HV_VPOS then 0 else if a = R.HV_VGH then 1 else if a = R.HV_VGL then 2 else 3
    let s : State := if s.hvState = 0 then { s with hv := { s.hv with inForce := s.hv.inForce.setIfInBounds i code } } else s
    s.putBit R.HV_STATUS 10 (decide (s.railCodes ≠ s.hv.inForce))

/-- HV_CTRL written at its boundary (R354). -/
def State.writeHvCtrl (s : State) (val : Word) : State := s.setReg R.HV_CTRL (val &&& 0xFF01#32)

/-! ### The sequences (R355, R356), in ticks -/

/-- gap_k and ramp_k. -/
def State.seqGap (s : State) (k : Nat) : Nat := usTicks (1000 * s.fld R.HV_SEQ (4 * k + 3) (4 * k))
def State.seqRamp (s : State) (k : Nat) : Nat := usTicks (1000 * (s.fld R.HV_SEQ (17 + 2 * k) (16 + 2 * k) + 1))

/-- Rail k's ramp starts. -/
def State.rampStart (s : State) : Nat → Nat
  | 0 => s.hv.seqAt
  | k + 1 => s.rampStart k + s.seqRamp k + s.seqGap k

/-- Rail k's ramp ends. -/
def State.rampEnd (s : State) (k : Nat) : Nat := s.rampStart k + s.seqRamp k

/-- The time in which rail k discharges below 1 V in a power-down: open, at most 2 ms (assumption log 66). -/
def State.fallTime (s : State) (k : Nat) : Nat := Config.freeAt s.hv.fallNo k % (usTicks 2000 + 1)

/-- The j-th rail of the power-down begins to fall: VCOM for j = 0, VGL for j = 4. -/
def State.fallStart (s : State) : Nat → Nat
  | 0 => s.hv.seqAt
  | j + 1 => s.fallStart j + s.fallTime (4 - j) + s.seqGap (3 - j)

/-- Rail k is at its target, as far as the sequences say (HV_STATUS.rail_ok). -/
def State.railOk (s : State) (k : Nat) : Bool :=
  if s.hvState = 1 then decide (s.rampEnd k ≤ s.now)
  else if s.hvState = 3 then decide (s.now < s.fallStart (4 - k))
  else decide (s.hvState = 2 ∨ s.hvState = 6)

/-- Rail k is powered: its ramp has begun, or the rails are UP, or it has not begun to fall (R358). -/
def State.railOn (s : State) (k : Nat) : Bool :=
  if s.hvState = 1 then decide (s.rampStart k ≤ s.now) else s.railOk k

/-- HV_ARM (R354). -/
def execHvArm (val : Word) (s : State) : Host.Outcome State Fault Refusal := .next (s.writeHvCtrl val)

/-- Something waits for the rails: an update or Park, or the trip card (R354, R355). -/
def State.railDemand (s : State) : Bool :=
  s.bit R.PNL_STATUS 3 ||
    (s.cardPending && s.cardAllowed && !s.cardAfterPark && (match s.verdict s.cardRequest with | .waitRails => true | _ => false))

/-- The power-up sequence may start (R354, R360, R395). -/
def State.mayRaise (s : State) : Bool :=
  s.bit R.HV_CTRL 0 && !s.bit R.HV_FAULT 15 && !s.bit R.HV_STATUS 11 && !s.hv.disabled && decide (s.hvState = 0)

/-- The rails have come UP now. -/
def State.railsComeUp (s : State) : State :=
  { (s.setHvState 2).alert R.HV_ALERT 3 with hv := { s.hv with upAt := s.now, idleAt := s.now } }

/-- HV_RAILS_UP (R355): VCOM's ramp has ended. -/
def execHvRailsUp (s : State) : Host.Outcome State Fault Refusal :=
  .next (if s.hvState = 1 ∧ s.rampEnd 4 ≤ s.now then s.railsComeUp else s)

/-- The rails are below 1 V. -/
def State.discharged (s : State) : State := { s with hv := { s.hv with charged := false } }

/-- HV_RAILS_DOWN (R356, R359): the rails are below 1 V; after a power-down, whose last rail is VGL, the state is OFF. -/
def execHvRailsDown (s : State) : Host.Outcome State Fault Refusal :=
  .next (if s.hvState = 3 ∧ s.now < s.fallStart 4 + s.fallTime 0 then s
    else if s.hvState = 3 then (s.discharged.setHvState 0).alert R.HV_ALERT 4
    else if s.hvState = 4 ∨ s.hvState = 5 ∨ s.hvState = 0 then s.discharged else s)

/-! ### Faults (R357-R361) -/

/-- Phase of a fault: 1 once the rails are UP (R359). -/
def State.faultPhase (s : State) : Nat := if s.hvState = 2 ∨ s.hvState = 6 then 1 else 0

/-- The payload of an HV_FAULT record. -/
def State.hvPayload (s : State) (rail cause attempts phase : Nat) (reading target : Int) (pixels : Nat) : List Byte :=
  leBytes 1 rail ++ leBytes 1 cause ++ leBytes 1 attempts ++ leBytes 1 phase ++ leBytes 2 (codeOf 16 reading)
    ++ leBytes 2 (codeOf 16 target) ++ leBytes 2 (s.fld R.HV_VRES 15 0) ++ leBytes 4 pixels

/-- Location code of rail k (R42): unit 1, sub_unit RAIL. -/
def State.railLoc (s : State) (k : Nat) : Word := s.loc 1 0 0xB k

/-- A slot granted and not started gives its grant back: its command waits for the rails again (R347). -/
def State.ungrant (s : State) : State :=
  (List.range 16).foldl (fun (s : State) n =>
    let z := s.slotAt n
    if z.granted && !z.active then
      let s := s.setSlot n Slot.free
      match z.owner with
      | .queue q => s.modQueue .pf (Fin.ofNat 32 q.val) (fun x => { x with live := x.live.map (fun l =>
          if l.phase = .running ∧ l.slotUsed = n then { l with phase := .eligible, slotUsed := 0xFF } else l) })
      | .parkAll => { s with pnl := { s.pnl with parkAllWaits := true } }
      | .tripCard => { s with hv := { s.hv with cardWaits := true } }
      | .none => s
    else s) s

/-- The power-down sequence may start (R354): the rails are UP, no slot is active, and arm is 0, or the hold time has passed; a slot that is
granted and starts at the next frame start counts as one that is active (DEDUCED, assumption log 66). -/
def State.mayLower (s : State) : Bool :=
  decide (s.hvState = 2) && !s.scanning
    && (!s.bit R.HV_CTRL 0
      || ((List.range 16).all (fun n => !(s.slotAt n).granted)
          && (s.onVres || decide (s.hv.idleAt + usTicks (10000 * s.fld R.HV_CTRL 15 8) ≤ s.now))))

/-- The power-down sequence begins. -/
def State.lowerRails (s : State) : State :=
  let (k, s) := s.ungrant.draw
  { s.setHvState 3 with hv := { s.hv with seqAt := s.now, fallNo := k } }

/-- HV_POWER_DOWN (R354, R356); a slot granted and not started waits for the rails again. -/
def execHvPowerDown (s : State) : Host.Outcome State Fault Refusal := .next (if s.mayLower then s.lowerRails else s)

/-- The converters stop and the rails are discharged; a measurement in progress ends without a result; the panel meets the
fault as R344 provides. -/
def State.railsOff (s : State) (state : Nat) : State :=
  let s := { (s.setHvState state).putBit R.HV_KICKBACK 8 false with hv := { s.hv with faultAt := s.now } }
  (s.stopDriving.hvAbort.ungrant.panelState).settle .pf

/-- A rail fault is handled (R359). -/
def State.railFault (s : State) (rail cause : Nat) (reading : Int) : State :=
  let phase := s.faultPhase
  let pixels := s.newlyUnknown
  let attempts := satAt 3 (s.fld R.HV_FAULT 9 8 + 1)
  let latch := decide (cause = 4) || decide (attempts = 3)
  let s := s.setReg R.HV_FAULT (BitVec.ofNat 32 (rail + cause * 16 + attempts * 256 + phase * 1024 + b2n latch * 2 ^ 15))
  let s := s.alert R.HV_ALERT 1
  let payload := s.hvPayload rail cause attempts phase reading (s.railTarget rail) pixels
  let s := if latch || decide (0 < pixels) then s.logEvent kHv (s.railLoc rail) payload else s
  if latch then (s.railsOff 5).urgent R.HV_ALERT 0 else s.railsOff 4

/-- The reading r of a rail with target t has not passed n tenths of the target. -/
def short10 (t r : Int) (n : Nat) : Bool := decide (10 * (if t < 0 then -r else r) ≤ n * t.natAbs)

/-- SLOW_START of rail k with reading r (R357): from 40 % of its ramp on it has not passed 30 % of its target, or 1 ms after the ramp's end
not 90 %. The second test belongs to that instant; the model allows it 1 ms (DESIGN CHOICE, assumption log 66). -/
def State.slowStart (s : State) (k : Nat) (r : Int) : Bool :=
  let t := s.railTarget k
  (decide (s.hvState = 1 ∧ 5 * s.rampStart k + 2 * s.seqRamp k ≤ 5 * s.now ∧ s.now < s.rampEnd k) && short10 t r 3)
    || (decide (s.rampEnd k + usTicks 1000 ≤ s.now ∧ s.now ≤ s.rampEnd k + usTicks 2000) && s.railOk k && short10 t r 9)

/-- Reading r of rail k is beyond its overvoltage limit (R358), in 10 mV. -/
def overVoltage (k : Nat) (r : Int) : Bool :=
  match k with
  | 0 => decide (r < -2500)
  | 2 => decide (2600 < r)
  | 4 => decide (r < -300 ∨ 0 < r)
  | _ => decide (1700 < r.natAbs)

/-- A cause that rail k can meet now with reading r (R357, R358). Currents are no operand of the row, so that causes 2 and 3 need only a
powered rail. -/
def State.faultPossible (s : State) (k cause : Nat) (r : Int) : Bool :=
  s.railsPowered && s.railOn k && (match cause with
    | 1 => s.slowStart k r
    | 2 | 3 => true
    | 4 => overVoltage k r
    | 5 => decide (s.faultPhase = 1) && decide (10 * (if s.railTarget k < 0 then -r else r) < 9 * (s.railTarget k).natAbs)
    | _ => false)

/-- HV_FAULT (R357-R359). -/
def execHvFault (rail : Fin 5) (cause : Fin 7) (reading : Int) (s : State) : Host.Outcome State Fault Refusal :=
  .next (if s.faultPossible rail.val cause.val reading then s.railFault rail.val cause.val reading else s)

/-- Rails whose monitor failed its self-test are faulted with SHORT once they are powered (R402). -/
def State.monitorFaults (s : State) : State :=
  (List.finRange 6).foldl (fun (s : State) (k : Fin 6) =>
    if s.railsPowered && s.saf.failedMonitors.contains (.rail k) then s.railFault k.val 3 0 else s) s

/-- HV_POWER_UP (R352, R354, R355, R402). -/
def execHvPowerUp (s : State) : Host.Outcome State Fault Refusal :=
  .next (if s.prilRuns && s.mayRaise && s.railDemand then
    let s := (s.takeCodes).setHvState 1
    { s with hv := { s.hv with charged := true, seqAt := s.now } }.monitorFaults
  else s)

/-- HV_RETRY_EXPIRY (R359): 100 ms have passed since the fault was detected. -/
def execHvRetryExpiry (s : State) : Host.Outcome State Fault Refusal :=
  .next (if s.hvState = 4 ∧ s.hv.faultAt + usTicks 100000 ≤ s.now then s.discharged.setHvState 0 else s)

/-- HV_ATTEMPTS_CLEAR (R359): the rails have been UP for 1 s without a fault. -/
def execHvAttemptsClear (s : State) : Host.Outcome State Fault Refusal :=
  .next (if (s.hvState = 2 ∨ s.hvState = 6) ∧ s.hv.upAt + usTicks 1000000 ≤ s.now then s.setFld R.HV_FAULT 9 8 0 else s)

/-- VRES_LOW with VRES below 9.0 V while a rail is powered (R360): no latch and no attempt is counted. -/
def State.vresFault (s : State) : State :=
  let phase := s.faultPhase
  let pixels := s.newlyUnknown
  let attempts := s.fld R.HV_FAULT 9 8
  let s := s.setReg R.HV_FAULT (BitVec.ofNat 32 (5 + 6 * 16 + attempts * 256 + phase * 1024))
  let s := ((s.alert R.HV_ALERT 1).alert R.HV_ALERT 2).putBit R.HV_STATUS 11 true
  let payload := s.hvPayload 5 6 attempts phase (s.fld R.HV_VRES 15 0) (s.railTarget 5) pixels
  let s := if 0 < pixels then s.logEvent kHv (s.railLoc 5) payload else s
  s.railsOff 4

/-- VRES_LOW (R360). -/
def execVresLow (s : State) : Host.Outcome State Fault Refusal :=
  .next (if s.railsPowered ∧ s.fld R.HV_VRES 15 0 < 900 then s.vresFault else s)

/-- VRES_RECOVERED (R360): VRES is at or above 20.0 V. -/
def execVresRecovered (s : State) : Host.Outcome State Fault Refusal :=
  .next (if 2000 ≤ s.fld R.HV_VRES 15 0 then s.putBit R.HV_STATUS 11 false else s)

/-- A code written to HV_REARM at its boundary (R361). The record's rail reading is not stated, so it is free (assumption
log 7). -/
def State.hvRearm (s : State) (code : Nat) : State :=
  if code ≠ 0x0C3A then s
  else if !s.bit R.HV_FAULT 15 ∨ s.hv.charged then s.alert R.HV_ALERT 9
  else
    let rail := s.fld R.HV_FAULT 2 0
    let (n, s) := s.draw
    let payload := s.hvPayload rail (s.fld R.HV_FAULT 6 4) 0 2 (Config.freeNat n) (s.railTarget rail) 0
    let s := (s.putBit R.HV_FAULT 15 false).setFld R.HV_FAULT 9 8 0
    (s.logEvent kHv (s.railLoc rail) payload).setHvState 0

/-- HV_REARM (R361). -/
def execHvRearm (code : BitVec 16) (s : State) : Host.Outcome State Fault Refusal := .next (s.hvRearm code.toNat)

/-! ### Kick-back (R353) -/

/-- A kick-back measurement may start (R353). -/
def State.mayMeasure (s : State) : Bool := decide (s.hvState = 2) && !s.scanning && !s.onVres

/-- HV_KICKBACK written at its boundary (R353, R370). -/
def State.writeKickback (s : State) (frames : Nat) (start : Bool) : State :=
  if frames = 0 then s.alert R.HV_ALERT 8
  else
    let s := s.setFld R.HV_KICKBACK 3 0 frames
    if !start then s
    else if s.mayMeasure then
      let s := ((s.ungrant).setHvState 6).putBit R.HV_KICKBACK 8 true
      { s with hv := { s.hv with measured := 0 } }
    else s.alert R.HV_ALERT 8

/-- KICKBACK_START (R353). -/
def execKickbackStart (frames : BitVec 4) (s : State) : Host.Outcome State Fault Refusal :=
  .next (s.writeKickback frames.toNat true)

/-- The mean of n sensed voltages with sum t less v, rounded to nearest; a half may go either way (R353, assumption log 7). -/
def meanOffset (t : Int) (n : Nat) (v : Int) (up : Bool) : Int :=
  let num := t - v * n
  let q := num / n
  let r := (num % n).toNat
  if 2 * r < n then q else if n < 2 * r then q + 1 else if up then q + 1 else q

/-- The offset of the sensed voltages in mV; open where nothing was sensed or the field does not hold it. -/
def State.kickOffset (s : State) (sensed : List Int) : Int × State :=
  let (k, s) := s.draw
  let o := meanOffset sensed.sum sensed.length (10 * s.railTarget 4) (Config.freeBit k)
  if sensed.isEmpty ∨ o < -2048 ∨ 2047 < o then (Config.freeNat k, s) else (o, s)

/-- KICKBACK_DONE (R353): every frame has been scanned; sensed holds the sensed voltages in mV. -/
def execKickbackDone (sensed : List Int) (s : State) : Host.Outcome State Fault Refusal :=
  .next (if s.hvState = 6 ∧ s.fld R.HV_KICKBACK 3 0 ≤ s.hv.measured then
    let (o, s) := s.kickOffset sensed
    let s := ((s.setHvState 2).putBit R.HV_KICKBACK 8 false).setFld R.HV_KICKBACK 27 16 (codeOf 12 o)
    (s.putBit R.HV_KICKBACK 9 true).alert R.HV_ALERT 5
  else s)

/-! ### Other registers (R364, R370) -/

/-- HV_RES_CAP written at its boundary (R370). -/
def State.writeResCap (s : State) (val : Word) : State :=
  if 100 ≤ field val 9 0 ∧ field val 9 0 ≤ 1000 then s.setFld R.HV_RES_CAP 9 0 (field val 9 0) else s.alert R.HV_ALERT 8

/-- HV_EMODEL_DATA written at its boundary: the selected entry (R364). -/
def State.writeEmodel (s : State) (val : Word) : State :=
  { s with hv := { s.hv with emodel := s.hv.emodel.setIfInBounds (s.fld R.HV_EMODEL_SEL 6 0) val } }

/-- HV_TRIPCARD written at its boundary (R370). -/
def State.writeTripcard (s : State) (val : Word) : State :=
  if field val 12 0 % 8 ≠ 0 then s.alert R.HV_ALERT 8
  else ((s.setFld R.HV_TRIPCARD 12 0 (field val 12 0)).setFld R.HV_TRIPCARD 25 16 (field val 25 16)).putBit R.HV_TRIPCARD 28
    (bitAt val 28)

/-! ### The trip card (R368, R369) -/

/-- A digit in upper-case hex or decimal. -/
def digitByte (d : Nat) : Byte := BitVec.ofNat 8 (if d < 10 then 48 + d else 55 + d)

/-- n digits of v in base b, most significant first. -/
def digitsN (b v : Nat) : Nat → List Byte
  | 0 => []
  | n + 1 => digitsN b (v / b) n ++ [digitByte (v % b)]

/-- Number of decimal digits of v, at least one, at most n. -/
def decLen (v : Nat) : Nat → Nat
  | 0 => 0
  | n + 1 => if v < 10 then 1 else decLen (v / 10) n + 1

/-- v in decimal. -/
def decimal (v : Nat) : List Byte := digitsN 10 v (decLen v 20)

/-- ASCII bytes of a text. -/
def ascii (t : String) : List Byte := t.toList.map (fun c => BitVec.ofNat 8 c.toNat)

/-- A row of 32 cells, padded with spaces. -/
def cardRow (bs : List Byte) : List Byte := (bs ++ List.replicate 32 0x20#8).take 32

/-- A number of hundredths as a decimal with two places. -/
def hundredths (v : Int) : List Byte :=
  (if v < 0 then ascii "-" else []) ++ decimal (v.natAbs / 100) ++ ascii "." ++ digitsN 10 (v.natAbs % 100) 2

/-- The four rows of the card for the cause record at index i with slot bytes bs (R368). `up` rounds VMIN up to the next 0.1 V;
the spec does not say how it rounds (assumption log 7). -/
def cardText (cause i : Nat) (bs : List Byte) (up : Bool) : List (List Byte) :=
  let p := recPayload bs
  let raster := BitVec.ofNat 64 (leAt bs 8 8)
  let row1 := if leAt bs 6 2 % 2 = 1 then ascii "F " ++ decimal (stampFrame raster) ++ ascii " L " ++ decimal (stampLine raster)
    else ascii "F ----"
  let row2 := ascii "LOG " ++ digitsN 16 i 4 ++ ascii " T " ++ digitsN 16 (leAt bs 16 4) 8
  let v := leAt p 4 2
  let tenths := v / 10 + b2n (up && decide (v % 10 ≠ 0))
  let row3 := if cause = 1 then ascii "CH " ++ decimal (leAt p 0 2) ++ ascii " " ++ hundredths ((leAt p 6 2 : Int) * 25 - 4000) ++ ascii "C"
    else ascii "VMIN " ++ decimal (tenths / 10) ++ ascii "." ++ digitsN 10 (tenths % 10) 1 ++ ascii "V"
  [cardRow (if cause = 1 then ascii "THERMAL TRIP" else ascii "SUPPLY RESET"), cardRow row1, cardRow row2, cardRow row3]

/-- A cause of the trip card has arisen: 1 a thermal trip, 2 a SAG_RESET (R368). -/
def State.armCard (s : State) (cause : Nat) : State :=
  { s with hv := { s.hv with cardWaits := true, cardCause := cause, cardRecord := none, cardText := [], cardJudged := false } }

/-- The card is laid out at SAG_WARN (R98, R368). While another card still waits, the spec does not say what HV_TRIPCARD.state shows or whether
the card of the supply is composed over it: the model leaves the waiting one and the state as they were (DESIGN CHOICE, assumption
log 68). -/
def State.layCard (s : State) : State := if s.hv.cardWaits then s else s.setFld R.HV_TRIPCARD 30 29 1

/-- The text is finalised once the cause record has been written (R368). -/
def State.finishCard (s : State) (i : Nat) : State :=
  let (k, s) := s.draw
  let bs := (s.tm.record i).getD []
  { s.setFld R.HV_TRIPCARD 30 29 1 with hv := { s.hv with cardText := cardText s.hv.cardCause i bs (Config.freeBit k) } }

/-- TRIP_CARD_DRAW (R99, R368, R369): the text is finalised if it has not been. -/
def execTripCardDraw (s : State) : Host.Outcome State Fault Refusal :=
  .next (if s.prilRuns && s.hv.cardWaits then
    (match s.hv.cardRecord with
     | some i =>
       (if s.hv.cardText.isEmpty then (s.finishCard i).grantCard else s.grantCard).panelState
     | none => s)
  else s)

end Sys2Proof.Machine
end

