-- ==== Sys2Proof/Machine/Raster.lean ====
section
/-!
DEFINITION. Raster time (02_raster_time): the tracker's reading of LINE_REF and FRAME_REF, lock acquisition, holdover, slewing,
the tray's lines and their pulses, the dies' counters, and the mode and preset commands.
-/
namespace Sys2Proof.Machine

open Sys2Proof

/-! ### Status -/

/-- RAS_STATUS.state. -/
def State.rasState (s : State) : Nat := s.fld R.RAS_STATUS 2 0

/-- RAS_CTRL.mode: 0 TRACK, 1 PACED, 2 FREE. -/
def State.rasMode (s : State) : Nat := s.fld R.RAS_CTRL 1 0

/-- The raster part changed. -/
def State.modRas (s : State) (f : Raster → Raster) : State := { s with ras := f s.ras }

/-- A new raster state; a change sets ALERT_RAS.state_change. -/
def State.setRasState (s : State) (v : Nat) : State :=
  if s.rasState = v then s else (s.setFld R.RAS_STATUS 2 0 v).alert R.ALERT_RAS 0

/-- A status bit that rises sets its ALERT_RAS bit. -/
def State.riseRas (s : State) (bit al : Nat) : State :=
  if s.bit R.RAS_STATUS bit then s else (s.putBit R.RAS_STATUS bit true).alert R.ALERT_RAS al

/-- A judgement of R46: out of limits sets out_of_range, within them clears it. -/
def State.judge (s : State) (ok : Bool) : State :=
  if ok then s.putBit R.RAS_STATUS 3 false else s.riseRas 3 1

/-- The limits of R46 on a line period and a line count: 1.0 us lines, 16 to 4,095 lines, 23 to 240 Hz (fine units: 1,024 a ns). -/
def inLimits (per n : Nat) : Bool :=
  decide (1024000 ≤ per) && decide (16 ≤ n) && decide (n ≤ 4095)
    && decide (per * n * 23 ≤ 1024 * 10 ^ 9) && decide (1024 * 10 ^ 9 ≤ per * n * 240)

/-- Two line periods agree within 0.1 % of the second (R48, R55, R62). -/
def near (a b : Nat) : Bool := decide ((a - b) * 1000 ≤ b) && decide ((b - a) * 1000 ≤ b)

/-- RAS_LINE_PERIOD: the current line period in 1/16 ns, rounded to nearest, halves upward (R48). -/
def State.linePeriodReg (s : State) : Word := BitVec.ofNat 32 ((s.linePer + 32) / 64)

/-- A raster glitch or an acquisition restart is counted (R47, R55). -/
def State.lineGlitch (s : State) : State := s.bumpSat R.RAS_GLITCH 15 0 1

/-- A frame error is counted (R45). -/
def State.frameError (s : State) : State := s.bumpSat R.RAS_GLITCH 31 16 1

/-- A holdover is in progress: the held raster runs and no reference is followed (R61). -/
def State.inHoldover (s : State) : Bool :=
  decide (s.rasState = 3) || (decide (s.rasState = 1) && s.ras.held)

/-- A holdover starts: RAS_HOLD restarts (R61). -/
def State.startHoldover (s : State) : State :=
  (s.setReg R.RAS_HOLD 0).modRas (fun r => { r with held := true })

/-- The current line's start is moved so that the fraction stays as it is at τ when the line period changes from p to q. -/
def State.rebase (s : State) (τ p q : Nat) : State :=
  s.modRas (fun r => { r with lineAt := if τ ≤ r.lineAt then r.lineAt else τ - (τ - r.lineAt) * q / p })

/-! ### The tray's lines -/

/-- The frame that follows, and whether it raises RAS_GEN: a preset's step or the wrap of the frame field (R50, R65). -/
def Raster.nextFrame (r : Raster) : Nat × Bool :=
  match r.preset with
  | some p => (p, true)
  | none => if r.frame + 1 < 2 ^ 40 then (r.frame + 1, false) else (0, true)

/-- The tray enters the next frame at line l; `jump` says that RAS_GEN rises in any case (R51). -/
def State.enterFrame (s : State) (l : Nat) (jump : Bool) : State :=
  let n := s.ras.nextFrame
  let s := s.modRas (fun r => { r with frame := n.1, line := l, preset := none })
  if n.2 || jump then s.raiseGen else s

/-- What falls on a tray frame boundary: RAS_HOLD counts it in a holdover (R61); while a reference is followed, frames without
FRAME_REF are counted (R47). -/
def State.frameBoundary (s : State) : State :=
  if s.inHoldover then s.setReg R.RAS_HOLD (s.reg R.RAS_HOLD + 1)
  else if s.rasState = 2 ∨ s.rasState = 4 then
    s.modRas (fun r => { r with noRefFrames := if r.frameRefSeen then 0 else r.noRefFrames + 1, frameRefSeen := false })
  else s

/-- The pulse of the current line leaves with fraction p; PANEL gates are evaluated at it (R57, R347). -/
def State.sendPulse (s : State) (p : Nat) : State :=
  let t := mkStamp s.ras.frame s.ras.line p
  (s.modRas (fun r => { r with pulse := t, pulses := r.pulses + 1, pulseAt := r.lineAt + p * s.linePer / 4096 })).passGates .pf t

/-- Fine time at which the current line ends. -/
def State.lineEnd (s : State) : Nat := s.ras.lineAt + s.linePer

/-- After a jump or a slew towards the peer in LOCKED, the tray's lines keep their place relative to the reference's edges: the
phase is measured, and a line that ends before the next edge is due (R378). -/
def State.rephase (s : State) : State :=
  if s.rasState = 2 then
    let next := s.lineEnd
    s.modRas (fun r =>
      { r with phase := (next - r.refAt) % r.per, due := if next < r.refAt + r.per then some (next, 0) else none })
  else s

/-- A forward jump of u raster units agreed with the peer, made at this line pulse (R378). -/
def State.pairShift (s : State) (τ : Nat) : State × Nat :=
  match s.ras.pairJump with
  | none => (s, 0)
  | some u =>
    let t := rasterAdd (mkStamp s.ras.frame s.ras.line 0) u s.lines
    let per := s.linePer
    let s := s.modRas (fun r => { r with frame := stampFrame t, line := stampLine t, pairJump := none,
                                          lineAt := τ - stampFrac t * per / 4096,
                                          pairMoved := r.pairMoved + u * s.lines })
    let s := if 64 < u then s.raiseGen else s
    (s.rephase.alert R.PAIR_ALERT 4, stampFrac t)

/-- The holdover error bound passes one line: 1/64 line plus 5e-6 of the time since the last accepted edge (R60, R61). -/
def State.holdError (s : State) : State :=
  if s.inHoldover &&
      decide (63 * s.ras.per * 1000000 < 5 * 64 * (fineOfTick s.now - fineOfTick s.ras.lastAccepted)) then s.riseRas 4 2
  else s

/-- A slewed line of tray B closes one line in N lines; the slew stops within 1/64 line (R378). `pairLeft` counts N-ths of a
raster unit. -/
def State.slewLine (s : State) : State :=
  if s.ras.pairSlew = 0 then s
  else
    let left := s.ras.pairLeft - 4096
    let s := s.modRas (fun r =>
      { r with pairMoved := if r.pairSlew = 1 then r.pairMoved - 4096 else r.pairMoved + 4096, pairLeft := left })
    if left ≤ 64 * s.lines then (s.modRas (fun r => { r with pairSlew := 0, pairLeft := 0 })).rephase
    else s

/-- The tray starts its next line at fine time τ; its pulse carries fraction p (R49, R57). -/
def State.startLine (s : State) (τ p : Nat) : State :=
  let s := if s.lines ≤ s.ras.line + 1 then (s.frameBoundary).enterFrame 0 false
           else s.modRas (fun r => { r with line := r.line + 1 })
  let s := s.modRas (fun r => { r with lineAt := τ, due := none })
  let (s, f) := s.slewLine.pairShift τ
  (s.holdError).sendPulse (min 4095 (p + f))

/-- A line start that an edge brings on while more than 1/64 of the current line is still to run is a forward jump (R51). -/
def State.dueLine (s : State) (τ p : Nat) : State :=
  let early := decide (64 * (τ - s.ras.lineAt) < 63 * s.linePer)
  let s := if early then s.raiseGen else s
  s.startLine τ p

/-- The tray generates its line starts itself: every state but LOCKED, and LOCKED while tray B slews (R57, R378). -/
def State.freeRuns (s : State) : Bool := decide (s.rasState ≠ 2) || decide (s.ras.pairSlew ≠ 0)

/-- The line start that is due by tick t is made: one that an accepted or synthesised line owes, or a self-generated one whose
time has come within the tick. -/
def State.syncLine (s : State) (t : Nat) : State :=
  if s.freeRuns then
    if s.lineEnd < fineOfTick (t + 1) then s.startLine s.lineEnd 0 else s
  else match s.ras.due with
    | some (τ, p) => if τ < fineOfTick (t + 1) then s.dueLine τ p else s
    | none => s

/-- The line of the tray that the LINE_REF edge accepted last starts (R48): the next one while its start is due. -/
def State.edgeLine (s : State) : Nat :=
  if s.ras.due.isSome then (if s.lines ≤ s.ras.line + 1 then 0 else s.ras.line + 1) else s.ras.line

/-! ### Acquisition (R55) -/

/-- Measurement starts at step 1; `e` is the first valid edge, none where the next LINE_REF edge is. -/
def State.acqStart (s : State) (e : Option Nat) : State :=
  s.modRas (fun r => { r with acq := { Acq.idle with step := 1, lastEdge := e }, jump := none })

/-- A FRAME_REF edge has just been matched: the tests of R47 and R48 on FRAME_REF edges start from it. -/
def State.frameRefMet (s : State) : State :=
  s.modRas (fun r => { r with frameRefSeen := true, noRefFrames := 0, errRun := 0, errDist := 0, linesSinceFrameRef := 0 })

/-- The tray follows the reference in LOCKED from now on: what R47 and R48 measure line edges against is set. -/
def State.enterLocked (s : State) (e : Nat) : State :=
  let s := s.modRas (fun r =>
    { r with lockPer := r.per, refAt := fineOfTick e, lastAccepted := e, missRun := 0, held := true, slew := 0, jump := none,
             returned := none, acceptGeom := false, acq := Acq.idle, phase := 0 })
  let s := (s.putBit R.RAS_STATUS 4 false).putBit R.RAS_STATUS 5 false
  s.setRasState 2

/-- A new geometry is adopted: frame F + 1 starts at the reference frame edge e (R56); `ret` for a returning reference (R62). -/
def State.adopt (s : State) (e n per : Nat) (ret : Bool) : State :=
  let s := s.enterFrame 0 true
  let s := (s.modRas (fun r => { r with lineAt := fineOfTick e, per := per, due := none })).setFld R.RAS_LINES 11 0 n
  let s := if ret then (s.putBit R.RAS_STATUS 6 true).alert R.ALERT_RAS 4 else s
  (s.frameRefMet.enterLocked e).sendPulse 0

/-- The lock test has passed at the reference frame edge e with n lines of period per (R55, R56, R62). -/
def State.lockAt (s : State) (e n per : Nat) : State :=
  let s := s.putBit R.RAS_STATUS 3 false
  if !s.ras.held then s.adopt e n per false
  else if n = s.lines ∧ near per s.ras.per then
    let whole := s.lines * 4096
    let place := (s.ras.line * 4096 : Nat) + ((fineOfTick e : Int) - s.ras.lineAt) * 4096 / s.ras.per
    let pos := (place % whole).toNat
    let s := s.frameRefMet
    if 2 * pos ≤ whole then
      let s := (s.rebase (fineOfTick s.now) s.ras.per per).modRas (fun r => { r with per := per })
      if pos ≤ 64 then s.enterLocked e
      else
        let s := s.rebase (fineOfTick s.now) per (per * 64 / 63)
        let s := s.modRas (fun r => { r with slew := pos, refAt := fineOfTick e, lastAccepted := e, missRun := 0,
                                              acq := Acq.idle })
        (s.putBit R.RAS_STATUS 4 false).setRasState 4
    else
      s.modRas (fun r => { r with jump := some (whole - pos), returned := some (n, per), lastAccepted := e })
  else if s.bit R.RAS_CTRL 2 then s.adopt e n per true
  else
    let s := s.modRas (fun r => { r with returned := some (n, per), acceptGeom := false })
    (s.riseRas 5 3).setRasState 3

/-- A LINE_REF edge at tick t while the reference is measured (R55). -/
def State.acqLine (s : State) (t : Nat) : State :=
  match s.ras.acq.lastEdge with
  | none => s.acqStart (some t)
  | some e =>
    let a := s.ras.acq
    let dt := t - e
    let s := s.modRas (fun r => { r with hist := (dt :: r.hist).take 64 })
    if a.step = 1 then
      if a.intervals ≠ 0 ∧ (dt * 8 * a.intervals < 7 * a.sum ∨ 9 * a.sum < dt * 8 * a.intervals) then
        s.lineGlitch.acqStart (some t)
      else
        let n := a.intervals + 1
        let sum := a.sum + dt
        if n < 64 then s.modRas (fun r => { r with acq := { a with lastEdge := some t, intervals := n, sum := sum } })
        else
          (s.modRas (fun r => { r with acq := { a with lastEdge := some t, intervals := n, sum := sum, per := sum * 40,
                                                        step := 2 } })).judge (decide (1024000 ≤ sum * 40))
    else if fineOfTick dt * 8 < 7 * a.per ∨ 9 * a.per < fineOfTick dt * 8 then s.lineGlitch.acqStart (some t)
    else s.modRas (fun r => { r with acq := { a with lastEdge := some t, linesInFrame := a.linesInFrame + 1 } })

/-- A FRAME_REF edge matched to the LINE_REF edge e while the reference is measured (R45, R46, R55). -/
def State.acqFrame (s : State) (e : Nat) : State :=
  let a := s.ras.acq
  if a.step = 2 then
    s.modRas (fun r => { r with acq := { a with step := 3, frameStart := e, linesInFrame := 0, counts := [] } })
  else if a.step = 3 then
    let n := a.linesInFrame
    let dur := fineOfTick (e - a.frameStart)
    let ok := decide (1024000 ≤ a.per) && decide (16 ≤ n) && decide (n ≤ 4095)
      && decide (dur * 23 ≤ 1024 * 10 ^ 9) && decide (1024 * 10 ^ 9 ≤ dur * 240)
    let tol := a.inTolerance && near dur (n * a.per)
    let s := s.judge ok
    match a.counts with
    | [] => s.modRas (fun r => { r with acq := { a with frameStart := e, linesInFrame := 0, counts := [n], inTolerance := tol } })
    | m :: _ =>
      if m = n ∧ tol ∧ ok then s.lockAt e n a.per else s.acqStart (some (a.lastEdge.getD e))
  else s

/-- The tray jumps forward to the reference at its line edge t and enters LOCKED (R62). -/
def State.jumpLock (s : State) (t u : Nat) : State :=
  let per := (s.ras.returned.map (·.2)).getD s.ras.per
  let s := if 2 * s.ras.line < s.lines then
      let s := s.modRas (fun r => { r with line := 1 })
      if 64 < u then s.raiseGen else s
    else s.enterFrame 1 (decide (64 < u))
  let s := s.modRas (fun r => { r with lineAt := fineOfTick t, per := per, due := none })
  (s.enterLocked t).sendPulse 0

/-! ### Following the reference (R47, R48) -/

/-- A geometry change: ACQUIRING with the raster running on (R48). The first valid edge of the measurement is the last accepted
one; after a missing line it is the next edge (DEDUCED, assumption log 54). -/
def State.geometryChange (s : State) : State :=
  let e := if s.ras.missRun = 0 then some s.ras.lastAccepted else none
  (((s.startHoldover).acqStart e).modRas (fun r => { r with due := none })).setRasState 1

/-- A FRAME_REF edge that is a frame error while LOCKED: two in a row whose edges lie the same M ≠ N lines apart are a geometry
change (R48; assumption log 14). -/
def State.lockedFrameError (s : State) : State :=
  let m := s.ras.linesSinceFrameRef
  let again := decide (1 ≤ s.ras.errRun) && decide (s.ras.errDist = m) && decide (m ≠ s.lines)
  let s := s.frameError.modRas (fun r => { r with errRun := r.errRun + 1, errDist := m, linesSinceFrameRef := 0 })
  if again then s.geometryChange else s

/-- A FRAME_REF edge that matches no LINE_REF edge is a frame error (R45, R48). -/
def State.unmatchedFrame (s : State) : State := if s.rasState = 2 then s.lockedFrameError else s.frameError

/-- A FRAME_REF edge whose matching line has been found starts line 0, or is a frame error (R48). -/
def State.lockedFrame (s : State) (line : Nat) : State :=
  if line = 0 then s.modRas (fun r => { r with errRun := 0, linesSinceFrameRef := 0 }) else s.lockedFrameError

/-- A held FRAME_REF edge is judged when a LINE_REF edge arrives at tick t (R45): matched within a quarter of its window's period,
else a frame error. -/
def State.resolveFrameRef (s : State) (t : Nat) : State × Bool :=
  match s.ras.frameRefAt with
  | none => (s, false)
  | some (f, per) =>
    let s := s.modRas (fun r => { r with frameRefAt := none })
    if 4 * fineOfTick (t - f) ≤ per then (s, true) else (s.unmatchedFrame, false)

/-- A held FRAME_REF edge whose window has passed without a LINE_REF edge is a frame error (R45). While the tray is LOCKED the next
LINE_REF edge shows it. -/
def State.lapseFrameRef (s : State) (t : Nat) : State :=
  match s.ras.frameRefAt with
  | none => s
  | some (f, per) =>
    if s.rasState = 2 ∨ 4 * fineOfTick (t - f) ≤ per then s
    else (s.modRas (fun r => { r with frameRefAt := none })).frameError

/-- The fraction of a synthesised line's pulse at the 9/8 instant (R57): 1/8 line, less what a phase towards the peer takes. -/
def Raster.lateFrac (r : Raster) : Nat := if r.phase = 0 then 512 else (r.per - 8 * r.phase) * 512 / r.per

/-- The line is missing at tick t (R47). -/
def State.missLine (s : State) : State :=
  let s := s.lineGlitch
  let start := s.ras.refAt + s.ras.per
  let s := s.modRas (fun r =>
    { r with refAt := start, missRun := r.missRun + 1, linesSinceFrameRef := r.linesSinceFrameRef + 1 })
  if s.rasState = 2 then s.modRas (fun r => { r with due := some (start + r.phase, r.lateFrac) })
  else s.modRas (fun r => { r with slew := r.slew - 64 })

/-- No accepted or missing edge by 9/8 of the period at tick t (R47). -/
def State.lineIsMissing (s : State) (t : Nat) : Bool :=
  decide (s.rasState = 2 ∨ s.rasState = 4) && decide (8 * s.ras.refAt + 9 * s.ras.per ≤ 8 * fineOfTick (t + 1))

/-- A line start still owed when the next edge is accepted is made first. -/
def State.flushLine (s : State) (t : Nat) : State :=
  match s.ras.due with
  | some (τ, p) => if s.freeRuns then s else s.dueLine (min τ (fineOfTick t)) p
  | none => s

/-- The last 64 accepted line periods after an edge at tick t (R48). The interval that ends after a synthesised line spans more
than one line; that it is left out of the mean is a DESIGN CHOICE (assumption log 53). -/
def Raster.nextHist (r : Raster) (t : Nat) : List Nat :=
  if r.missRun = 0 then ((t - r.lastAccepted) :: r.hist).take 64 else r.hist

/-- An edge accepted in LOCKED at tick t (R47, R48). -/
def State.acceptLine (s : State) (t : Nat) : State :=
  let s := s.flushLine t
  let hist := s.ras.nextHist t
  let per := if hist.isEmpty then s.ras.per else hist.sum * 2560 / hist.length
  let s := s.modRas (fun r =>
    { r with hist := hist, per := per, refAt := fineOfTick t, lastAccepted := t, missRun := 0,
             due := if r.pairSlew = 0 then some (fineOfTick t + r.phase, 0) else none,
             linesSinceFrameRef := r.linesSinceFrameRef + 1 })
  let s := s.judge (inLimits per s.lines)
  let (s, matched) := s.resolveFrameRef t
  let s := if matched then s.lockedFrame s.edgeLine else s
  if s.rasState = 2 ∧ !near per s.ras.lockPer then (s.syncLine t).geometryChange else s

/-- An edge accepted in SLEWING at tick t: the reference's own timing, and the end of the slew (R45, R47, R62). -/
def State.acceptSlew (s : State) (t : Nat) : State :=
  let hist := s.ras.nextHist t
  let s := s.modRas (fun r => { r with hist := hist, refAt := fineOfTick t, lastAccepted := t, missRun := 0, slew := r.slew - 64,
                                        linesSinceFrameRef := r.linesSinceFrameRef + 1 })
  let (s, matched) := s.resolveFrameRef t
  let s := if matched then s.modRas (fun r => { r with linesSinceFrameRef := 0 }) else s
  if s.ras.slew ≤ 64 then (s.rebase (fineOfTick t) s.linePer s.ras.per).enterLocked t else s

/-- LINE_REF_EDGE: a selected edge at tick t (R45, R47, R48, R55, R62). -/
def State.lineEdge (s : State) (t : Nat) : State :=
  let s := s.syncLine t
  let st := s.rasState
  if st = 2 ∨ st = 4 then
    let s := if s.lineIsMissing t && decide (8 * s.ras.refAt + 9 * s.ras.per < 8 * fineOfTick t) then
        s.missLine.syncLine t else s
    if 8 * fineOfTick t < 8 * s.ras.refAt + 7 * s.ras.per then s.lineGlitch
    else if st = 2 then s.acceptLine t else s.acceptSlew t
  else if st = 1 then
    let (s, matched) := s.resolveFrameRef t
    match s.ras.jump with
    | some u => s.jumpLock t u
    | none =>
      let s := s.acqLine t
      if matched ∧ s.ras.acq.step ≠ 1 then s.acqFrame t else s
  else if s.bit R.RAS_STATUS 5 then
    -- rate_mismatch: the returned reference is followed for its stop and for ACCEPT_GEOM (R62)
    let s := s.modRas (fun r => { r with acq := { r.acq with lastEdge := some t } })
    let (s, matched) := s.resolveFrameRef t
    if matched && s.ras.acceptGeom then
      match s.ras.returned with
      | some (n, p) => s.adopt t n p true
      | none => s
    else s
  else ((s.resolveFrameRef t).1.acqStart (some t)).setRasState 1

/-- A FRAME_REF edge at tick t lies within a quarter period after the line edge e (R45). -/
def afterEdge (t e per : Nat) : Bool := decide (e ≤ t) && decide (4 * fineOfTick (t - e) ≤ per)

/-- A FRAME_REF edge is kept, with its window's period, until the next LINE_REF edge shows whether it matches; one already kept is a
frame error. In a measurement that has no period yet the window is not defined, and the edge is ignored. -/
def State.keepFrameRef (s : State) (t per : Nat) : State :=
  let s := match s.ras.frameRefAt with
    | some _ => (s.modRas (fun r => { r with frameRefAt := none })).unmatchedFrame
    | none => s
  if s.rasState = 1 ∧ s.ras.acq.per = 0 then s else s.modRas (fun r => { r with frameRefAt := some (t, per) })

/-- FRAME_REF_EDGE: a selected edge at tick t (R45, R48, R55, R62). -/
def State.frameEdge (s : State) (t : Nat) : State :=
  let s := s.syncLine t
  let st := s.rasState
  if st = 2 then
    let s := s.modRas (fun r => { r with frameRefSeen := true })
    if s.ras.missRun = 0 && afterEdge t s.ras.lastAccepted s.ras.per then s.lockedFrame s.edgeLine
    else s.keepFrameRef t s.ras.per
  else if st = 4 then
    let s := s.modRas (fun r => { r with frameRefSeen := true })
    if s.ras.missRun = 0 && afterEdge t s.ras.lastAccepted s.ras.per then s.modRas (fun r => { r with linesSinceFrameRef := 0 })
    else s.keepFrameRef t s.ras.per
  else if st = 1 then
    if s.ras.acq.per = 0 then s
    else match s.ras.acq.lastEdge with
      | some e =>
        if afterEdge t e s.ras.acq.per then (if s.ras.jump.isSome then s else s.acqFrame e)
        else s.keepFrameRef t s.ras.acq.per
      | none => s
  else if s.bit R.RAS_STATUS 5 then
    match s.ras.acq.lastEdge, s.ras.returned with
    | some e, some (n, p) =>
      if afterEdge t e p then (if s.ras.acceptGeom then s.adopt e n p true else s) else s.keepFrameRef t p
    | _, _ => s
  else s

/-- The tray enters HOLDOVER from LOCKED or SLEWING with no discontinuity (R60, R62). -/
def State.enterHoldover (s : State) (t : Nat) : State :=
  let s := s.syncLine t
  let s := if s.rasState = 4 then s.rebase (fineOfTick t) s.linePer s.ras.per else s
  let s := s.modRas (fun r => { r with due := none, slew := 0, acq := Acq.idle })
  s.startHoldover.setRasState 3

/-! ### The commands -/

/-- The inputs are judged: TRACK mode, and the tracker runs (R52, R64). -/
def State.tracks (s : State) : Bool := decide (s.rasMode = 0) && !s.pwr.stopped

/-- LINE_REF_EDGE (R45, R47): an edge of the selected polarity. -/
def execLineRefEdge (t : Nat) (e : EdgeDir) (s : State) : Host.Outcome State Fault Refusal :=
  let s := s.at t
  .next (if s.tracks && (decide (e = .falling) == s.bit R.RAS_CTRL 4) then s.lineEdge s.now else s)

/-- FRAME_REF_EDGE (R45): an edge of the selected polarity. -/
def execFrameRefEdge (t : Nat) (e : EdgeDir) (s : State) : Host.Outcome State Fault Refusal :=
  let s := s.at t
  .next (if s.tracks && (decide (e = .falling) == s.bit R.RAS_CTRL 3) then s.frameEdge s.now else s)

/-- LINE_MISSING (R47): no edge by 9/8 of the period. -/
def execLineMissing (t : Nat) (s : State) : Host.Outcome State Fault Refusal :=
  let s := s.at t
  .next (if s.tracks && s.lineIsMissing s.now then (s.syncLine s.now).missLine else s)

/-- REFERENCE_LOSS (R47, R60): four line periods without an accepted edge, or two tray frames without FRAME_REF. -/
def execReferenceLoss (t : Nat) (s : State) : Host.Outcome State Fault Refusal :=
  let s := s.at t
  let silent := decide (fineOfTick s.ras.lastAccepted + 4 * s.ras.per ≤ fineOfTick (s.now + 1))
  .next (if s.tracks && decide (s.rasState = 2 ∨ s.rasState = 4) && (silent || decide (2 ≤ s.ras.noRefFrames))
    then s.enterHoldover s.now else s)

/-- The reference has stopped at tick t: four periods of the period measured, or 11 ms while none is (R62). -/
def State.refStopped (s : State) (t : Nat) : Bool :=
  let per := if s.rasState = 3 then (s.ras.returned.map (·.2)).getD 0
             else if s.ras.jump.isSome then (s.ras.returned.map (·.2)).getD 0 else s.ras.acq.per
  match s.ras.acq.lastEdge with
  | none => decide (s.ras.lastAccepted + usTicks 11000 ≤ t)
  | some e => if per = 0 then decide (e + usTicks 11000 ≤ t) else decide (fineOfTick e + 4 * per ≤ fineOfTick (t + 1))

/-- REFERENCE_STOP (R62). -/
def execReferenceStop (t : Nat) (s : State) : Host.Outcome State Fault Refusal :=
  let s := s.at t
  .next (if s.tracks && s.refStopped s.now then
      if s.rasState = 1 then
        (s.modRas (fun r => { r with acq := Acq.idle, jump := none, returned := none })).setRasState
          (if s.ras.held then 3 else 0)
      else if s.rasState = 3 ∧ s.bit R.RAS_STATUS 5 then
        (s.putBit R.RAS_STATUS 5 false).modRas
          (fun r => { r with acq := Acq.idle, returned := none, acceptGeom := false })
      else s
    else s)

/-- TRAY_LINE_START (R49, R50, R57): the line that is due starts and its pulse leaves. A FRAME_REF edge whose window has passed is
counted (R45). -/
def execTrayLineStart (t : Nat) (s : State) : Host.Outcome State Fault Refusal :=
  let s := s.at t
  .next (if s.pwr.stopped then s else (s.lapseFrameRef s.now).syncLine s.now)

/-- Raster units by which the counter of die d and those of the dies that have taken the same pulse differ at most (R58). -/
def State.skewOf (s : State) (d : Die) : Nat :=
  (List.finRange 4).foldl (fun m e =>
    if s.dies[e].rasValid && s.dies[e].rasSeen == s.dies[d].rasSeen then
      max m (((s.dies[d].rasAt : Int) - s.dies[e].rasAt).natAbs * 4096 / s.dies[d].rasPer)
    else m) 0

/-- RASTER_PULSE (R57, R58, R59): a die above Midnight takes a pulse that left after its last one and after its raster input was
powered: its counter takes the pulse's F:L.s as of the pulse's instant, later by a skew of at most 2 ns, which is free (assumption
log 7); it evaluates its gates (R203). RAS_SKEW takes the largest difference from the dies that have taken the same pulse (DESIGN
CHOICE, assumption log 55). -/
def execRasterPulse (d : Die) (s : State) : Host.Outcome State Fault Refusal :=
  .next (if s.dies[d].power < 5 ∧ s.dies[d].rasSeen ≠ s.ras.pulses then
      let gen := s.fld R.RAS_GEN 15 0
      let (n, s') := s.draw
      let s' := s'.modDie d (fun x =>
        { x with rasValid := true, ras := s.ras.pulse, rasAt := s.ras.pulseAt + Config.freeNat n % 2049, rasPer := s.linePer,
                 rasGen := gen, rasSeen := s.ras.pulses })
      let s' := s'.setFld R.RAS_SKEW 7 0 (max (s'.fld R.RAS_SKEW 7 0) (satAt 255 (s'.skewOf d)))
      s'.passGates (.die d) s.ras.pulse
    else s)

/-- MT_MARK (R30): a die that has received its first pulse counts the mark for WAIT limits and ageing (R175, R197). -/
def execMtMark (d : Die) (s : State) : Host.Outcome State Fault Refusal :=
  .next (if s.dies[d].power < 5 ∧ s.dies[d].rasValid then
      s.modDie d (fun x => { x with queues := x.queues.map (Queue.mark s (.die d)) })
    else s)

/-- The current frame ends now and frame F + 1 of the mode's raster starts: n lines of period per (R53, R64). -/
def State.cutFrame (s : State) (n per st : Nat) : State :=
  let s := s.enterFrame 0 true
  let s := s.modRas (fun r =>
    { r with lineAt := fineOfTick s.now, per := per, due := none, held := false, slew := 0, jump := none, returned := none,
             acceptGeom := false, frameRefAt := none, acq := Acq.idle, pairSlew := 0, phase := 0 })
  let s := s.setFld R.RAS_LINES 11 0 n
  let s := (s.putBit R.RAS_STATUS 4 false).putBit R.RAS_STATUS 5 false
  (s.setRasState st).sendPulse 0

/-- The raster of a mode from the registers: lines, period, state (R52, R54). -/
def State.modeRaster (s : State) (mode : Nat) : Nat × Nat × Nat :=
  if mode = 1 then (s.fld R.RAS_PACE_LINES 11 0, (s.reg R.RAS_PACE_PERIOD).toNat * 64, 5)
  else if mode = 2 then (1000, freePeriod, 6) else (1000, freePeriod, 0)

/-- A mode other than the one in force takes effect at the boundary (R53); a change to PACED or FREE clears out_of_range (R46). -/
def State.changeMode (s : State) (m : Nat) : State :=
  if m = 3 ∨ m = s.rasMode then s
  else
    let s := s.setFld R.RAS_CTRL 1 0 m
    let (n, per, st) := s.modeRaster m
    let s := s.cutFrame n per st
    if m = 0 then s else s.putBit R.RAS_STATUS 3 false

/-- RAS_MODE_CHANGE (R53). -/
def execRasModeChange (mode : BitVec 2) (s : State) : Host.Outcome State Fault Refusal := .next (s.changeMode mode.toNat)

/-- PACED parameters within R46: the period in 1/16 ns. -/
def paceOk (period lines : Nat) : Bool :=
  decide (16000 ≤ period) && decide (16 ≤ lines) && decide (lines ≤ 4095)
    && decide (period * lines * 23 ≤ 16 * 10 ^ 9) && decide (16 * 10 ^ 9 ≤ period * lines * 240)

/-- PACED parameters applied at a boundary: rejected outside the limits; in PACED a change cuts the frame (R53). -/
def State.changePace (s : State) (period : Nat) (lines : Nat) : State :=
  if !paceOk period lines then (s.putBit R.RAS_STATUS 7 true).alert R.ALERT_RAS 5
  else
    let same := decide ((s.reg R.RAS_PACE_PERIOD).toNat = period) && decide (s.fld R.RAS_PACE_LINES 11 0 = lines)
    let s := (s.setReg R.RAS_PACE_PERIOD (BitVec.ofNat 32 period)).setFld R.RAS_PACE_LINES 11 0 lines
    if s.rasMode = 1 ∧ !same then
      let (n, per, st) := s.modeRaster 1
      s.cutFrame n per st
    else s

/-- PACE_PARAM_CHANGE (R53). -/
def execPaceParamChange (period : Word) (lines : BitVec 12) (s : State) : Host.Outcome State Fault Refusal :=
  .next (s.changePace period.toNat lines.toNat)

/-- SET_FRAME (R65): the preset must be greater than F + 1. -/
def State.setFrame (s : State) : State :=
  let p := (s.reg R.RAS_FRAME_PRESET_LO).toNat + s.fld R.RAS_FRAME_PRESET_HI 7 0 * 2 ^ 32
  if s.ras.frame + 1 < p then s.modRas (fun r => { r with preset := some p })
  else (s.putBit R.RAS_STATUS 8 true).alert R.ALERT_RAS 6

/-- SET_FRAME (R65). -/
def execSetFrame (s : State) : Host.Outcome State Fault Refusal := .next s.setFrame

/-- ACCEPT_GEOM (R62): ignored while rate_mismatch is clear. -/
def State.acceptGeometry (s : State) : State :=
  if s.bit R.RAS_STATUS 5 then s.modRas (fun r => { r with acceptGeom := true }) else s

/-- ACCEPT_GEOM (R62). -/
def execAcceptGeom (s : State) : Host.Outcome State Fault Refusal := .next s.acceptGeometry

/-- A read of CMD_RASTER_LO captures the die's counter, its validity and its generation (R59). -/
def State.captureRaster (s : State) (d : Die) : State :=
  let t := if s.dies[d].rasValid then s.dieRaster d else 0
  s.modDie d (fun x => { x with rasCap := t, rasCapValid := x.rasValid, rasCapGen := x.rasGen })

/-- CMD_RASTER_CAPTURE: a host read of CMD_RASTER_LO, which returns the low half. -/
def execCmdRasterCapture (d : Die) (s : State) : Host.Outcome State Fault Refusal :=
  .next (if s.reachable (.die d) then
      let s := s.captureRaster d
      { s with out := { s.out with resp := .ok (leBytes 4 s.dies[d].rasCap.toNat) } }
    else { s.portUr (.die d) with out := { s.out with resp := if s.switchOn then .ur else .none } })

end Sys2Proof.Machine
end

