-- ==== Sys2Proof/Machine/Power.lean ====
section
/-!
DEFINITION. The power ladder (04_supply_and_power_states R104-R113, R446; 18_bringup R442, R443; 01_tray R33-R36): requests,
bridge messages to the dies and their events, entry to a state and what is lost there, self-wakes, protective states, Small
hours and the wake sources.
-/
namespace Sys2Proof.Machine

open Sys2Proof

/-! ### Registers -/

/-- PWR_CTRL's target of die d. -/
def State.pwrTarget (s : State) (d : Die) : Nat := s.fld R.PWR_CTRL (4 * d.val + 2) (4 * d.val)
def State.setPwrTarget (s : State) (d : Die) (t : Nat) : State := s.setFld R.PWR_CTRL (4 * d.val + 2) (4 * d.val) t

/-- PWR_STATE's state of die d. -/
def State.shown (s : State) (d : Die) : Nat := s.fld R.PWR_STATE (4 * d.val + 2) (4 * d.val)

/-- PWR_STATE.tray: the shallowest state of the dies, or 6 in Small hours (R104). -/
def State.showTray (s : State) : State :=
  let n := min (min (s.shown 0) (s.shown 1)) (min (s.shown 2) (s.shown 3))
  s.setFld R.PWR_STATE 18 16 (if s.pwr.smallHours then 6 else n)

/-- PWR_STATE's state of die d replaced, and the tray's with it. -/
def State.setShown (s : State) (d : Die) (n : Nat) : State := (s.setFld R.PWR_STATE (4 * d.val + 2) (4 * d.val) n).showTray

/-- PWR_STATE.pending of die d. -/
def State.setPending (s : State) (d : Die) (b : Bool) : State := s.putBit R.PWR_STATE (20 + d.val) b

/-- The request of die d that is still to be carried out. -/
def State.setRequest (s : State) (d : Die) (r : Option Nat) : State :=
  { s with pwr := { s.pwr with request := s.pwr.request.set d r } }

/-- A protective state that holds the dies is latched (R113, R396, R398). -/
def State.protective (s : State) : Bool :=
  s.bit R.THM_STATUS 4 || s.bit R.SUP_STATUS 1 || decide (s.fld R.SAF_STATE 3 2 = 3) || s.pwr.adoptHold

/-! ### Losing a die (R105, R161, R189, R415, R432) -/

/-- Events of a die that stay true once it is unpowered. -/
def keepEvent : DieEvent → Bool
  | .memUe _ => true
  | .checkpoint _ _ => true
  | .raiseFailed _ => true
  | _ => false

/-- The die in Midnight: everything is lost but the switch's configuration store with its Pending Bit Array cleared (R415). -/
def DieSt.unpowered (x : DieSt) : DieSt :=
  { DieSt.reset with events := x.events.filter keepEvent, msix := { x.msix with pending := [] }, cfg := x.cfg }

/-- What the commands in execution on die d were writing is open (R145, R189; assumption log 9). -/
def State.abandonWrites (s : State) (d : Die) : State :=
  (s.dies[d].queues.toList.flatMap (fun q => q.live.filter (fun l => decide (l.phase = .running) || decide (l.phase = .preempted)))).foldl
    (fun (s : State) (l : Live) => s.leaveOpen 8 l.undo) s

/-- Link k of die d as that die sees it goes down; a transition is counted. -/
def State.linkOff (s : State) (d : Die) (k : Fin 4) : State :=
  if s.dies[d].linkUp[k] then
    s.modDie d (fun x =>
      { x with linkUp := x.linkUp.set k false,
               memBlk := x.memBlk.set 7 (setField x.memBlk[7] 15 8 (satAt 255 (field x.memBlk[7] 15 8 + 1))) })
  else s

/-- The die at the other end of die link k (R20). -/
def linkPeer (d : Die) (k : Fin 4) : Die := d + k + 1

/-- Die d's links go down at both ends with it; the other ends count it (R145). -/
def State.dropLinks (s : State) (d : Die) : State :=
  (List.finRange 4).foldl (fun (s : State) (e : Die) => if e = d then s else s.linkOff e (linkTo e d)) s

/-- The values of the objects homed on die d are forgotten by the others (R213, R214). -/
def State.forgetHomed (s : State) (d : Die) : State :=
  let keep (m : SMap DWord) : SMap DWord := m.filter (fun p => decide (homeOf p.1 ≠ d))
  let s := (List.finRange 4).foldl (fun (s : State) (e : Die) => s.modDie e (fun x => { x with seen := keep x.seen })) s
  { s with pf := { s.pf with seen := keep s.pf.seen } }

/-- Die d enters Midnight (R104, R105, R189): its memory, BAR0 and commands are lost, its URGENT lists leave the slot (R201), and
WAITs on objects homed there end (R214). -/
def State.loseDie (s : State) (d : Die) : State :=
  let s := (s.abandonWrites d).modDie d DieSt.unpowered
  let s := (s.dropLinks d).forgetHomed d
  let s := { s with pwr := { s.pwr with report := s.pwr.report.set d [],
                                          wakeDie := s.pwr.wakeDie.set d false } }
  s.releaseSlot.settleAll

/-- The stop lines unpower every die at once (R23, R99, R127, R395): PWR_STATE shows Midnight. -/
def State.diesOff (s : State) : State :=
  let s := { s with pwr := { s.pwr with stopLines := .replicate 4 true } }
  (List.finRange 4).foldl (fun (s : State) (d : Die) => (s.loseDie d).setShown d 5) s

/-- The boundary's part of a protective state (R113): the die fields of PWR_CTRL read Midnight, no request is left, and
PWR_STATE.forced is set. -/
def State.forceMidnight (s : State) : State :=
  let s := (List.finRange 4).foldl (fun (s : State) (d : Die) => ((s.setPwrTarget d 5).setRequest d none).setPending d false) s
  s.putBit R.PWR_STATE 24 true

/-- PWR_STATE.forced clears, and the stop lines are released, when no protective state is latched (R113, R130). R113 gives no instant
for a released supply reset: the model clears both at the next boundary (DESIGN CHOICE, assumption log 31). -/
def State.judgeForced (s : State) : State :=
  if s.protective then s
  else { s.putBit R.PWR_STATE 24 false with pwr := { s.pwr with stopLines := .replicate 4 false } }

/-! ### Pair data ports (R380) -/

/-- Both dies d of the pair are in Evening or shallower. -/
def State.portAwake (s : State) (d : Die) : Bool := decide (s.dies[d].power ≤ 2) && s.twinAwake d

/-- The tray is PAIRED or DIVERGED. -/
def State.accepted (s : State) : Bool := decide (s.fld R.PAIR_STATE 2 0 = 2) || decide (s.fld R.PAIR_STATE 2 0 = 3)

/-- Data port d up or down; a change from down is counted as a retrain where `count` says so. -/
def State.setPort (s : State) (d : Die) (up count : Bool) : State :=
  let s' := s.modDie d (fun x => { x with linkUp := x.linkUp.set 3 up })
  if up && count && !s.dies[d].linkUp[(3 : Fin 4)] then s'.bumpSat R.PAIR_LINKS 23 16 1 else s'

/-- Data ports park and retrain with the power states (R380): `was` says which ports could be up before. -/
def State.followPorts (s : State) (was : Die → Bool) : State :=
  (List.finRange 4).foldl (fun (s : State) (d : Die) =>
    if !s.portAwake d then s.setPort d false false
    else if !was d && s.accepted then s.setPort d true true else s) s

/-! ### A die's own part (R34, R106-R109) -/

/-- A die is idle: no command is executing and every queue's head equals its tail (R106). -/
def State.dieIdle (s : State) (d : Die) : Bool :=
  s.dies[d].engines.all (fun e => e.running.isNone && e.saved.isNone)
    && s.dies[d].queues.all (fun q => decide (q.head = q.tail) && q.live.all (fun l => !l.inExec))

/-- Die d starts to move to state t (R106). -/
def State.startMove (s : State) (d : Die) (t : Nat) (driven : Bool) : State :=
  s.modDie d (fun x => { x with moving := some (t, driven) })

/-- Die d acts on a power-state message: it enters a deeper state only when idle (R106). -/
def State.diePower (s : State) (d : Die) (t : Nat) : State :=
  let s := s.modDie d (fun x => { x with bellFrom := none })
  let p := s.dies[d].power
  if t = p then s.bridgeEvent d (.stateReached t true)
  else if p < t ∧ !s.dieIdle d then s
  else s.startMove d t true

/-- Die d acts on a message (R34). `boundary` says which engines are between steps. -/
def State.actMessage (s : State) (d : Die) (m : BridgeMsg) (boundary : Engine → Bool) : State :=
  match m with
  | .power t => s.diePower d t
  | .throttle a b => s.modDie d (fun x => { x with thermSteps := a, capSteps := b })
  | .epoch e => s.takeEpoch d e boundary
  | .wakeConfig b a => s.modDie d (fun x => { x with wakeDoorbell := b, autoIdle := a })

/-- Die d acts on the message at the front, if it is powered and not in a transition (R34). -/
def State.actFront (s : State) (d : Die) (boundary : Engine → Bool) : State :=
  match s.dies[d].msgs with
  | [] => s
  | m :: rest =>
    if s.dies[d].power < 5 ∧ s.dies[d].moving.isNone then
      (s.modDie d (fun x => { x with msgs := rest })).actMessage d m boundary
    else s

/-- Die d acts on up to n messages in delivery order, until one starts a transition (R34). -/
def State.actMessages (s : State) (d : Die) (boundary : Engine → Bool) : Nat → State
  | 0 => s
  | n + 1 => (s.actFront d boundary).actMessages d boundary n

/-- Of several messages of one kind only the latest is kept, in delivery order (R34, R35). -/
def latestOfKind : List BridgeMsg → List BridgeMsg
  | [] => []
  | m :: ms => if ms.any (sameKind m) then latestOfKind ms else m :: latestOfKind ms

/-- BRIDGE_MESSAGE (R34): a die that executes no step acts on a message when it is delivered; the others act at their next step
end. -/
def execBridgeMessage (d : Die) (s : State) : Host.Outcome State Fault Refusal :=
  .next (if s.dies[d].engines.all (fun e => e.running.isNone) then s.actFront d (fun _ => true) else s)

/-- An accepted doorbell wakes the die under the rules of its state (R108-R110): itself from Afternoon and Evening, through the
Prilliner from Dusk and Night; during a transition it is judged when the state is reached (R106). -/
def State.doorbellWake (s : State) (d : Die) : State :=
  let x := s.dies[d]
  if x.moving.isSome then s.modDie d (fun x => { x with doorbellHeld := true })
  else if x.power = 1 ∨ x.power = 2 then
    if x.wakeDoorbell || (x.autoIdle && decide (s.pwrTarget d = 0)) then s.startMove d 0 false else s
  else if (x.power = 3 ∨ x.power = 4) ∧ x.wakeDoorbell then s.bridgeEvent d .doorbellWake
  else s

/-- IDLE_RETURN (R109): after 1,024 dc idle in Noon. -/
def execIdleReturn (d : Die) (s : State) : Host.Outcome State Fault Refusal :=
  let x := s.dies[d]
  let t := s.pwrTarget d
  .next (if x.power = 0 ∧ x.moving.isNone ∧ s.dieIdle d then
      if x.selfWoken ∧ (t = 1 ∨ t = 2) then s.startMove d t false
      else if t = 0 ∧ x.autoIdle then s.startMove d 1 false else s
    else s)

/-- What a die loses on reaching Night: tier 0 (R105, R161). -/
def DieSt.intoNight (x : DieSt) : DieSt :=
  { x with t0 := [], poison := x.poison.filter (fun u => decide (0x80000000 ≤ u.unit)) }

/-- What a die clears as it leaves Night for a shallower state: its pool counters (R161), and paged caches go out of service (R324). -/
def DieSt.outOfNight (x : DieSt) : DieSt :=
  { x with memBlk := (x.memBlk.set 11 0).set 12 0,
           pageBlk := (((x.pageBlk.set 0 (setBit x.pageBlk[0] 0 false)).set 1 (setField x.pageBlk[1] 20 0 0)).set 11 0).set 12 0,
           page := { x.page with deferred := [], spilling := false } }

/-- The die moves from its power state to t above Midnight (R105, R148, R161, R324): patrol scrub starts over when it wakes from Dusk or
Night. -/
def DieSt.passTo (x : DieSt) (t : Nat) : DieSt :=
  let y := if t = 4 then x.intoNight else if x.power = 4 then x.outOfNight else x
  if 3 ≤ x.power ∧ t ≤ 2 then { y with scrub0 := 0, scrub1 := 0 } else y

/-- The links of a raised die train with every powered die but over link k (R442, R443). -/
def State.trainLinks (s : State) (d : Die) (bad : Option Nat) : State :=
  (List.finRange 4).foldl (fun (s : State) (e : Die) =>
    if e = d ∨ s.dies[e].power ≥ 5 then s
    else if bad = some (linkTo d e).val then s
    else
      let s := s.modDie d (fun x => { x with linkUp := x.linkUp.set (linkTo d e) true })
      s.modDie e (fun x => { x with linkUp := x.linkUp.set (linkTo e d) true })) s

/-- A die that leaves Midnight takes the Prilliner's current values (R35, R109, R126, R442). -/
def State.seedDie (s : State) (d : Die) : State :=
  s.modDie d (fun x =>
    { x with thermSteps := s.thm.steps[d], capSteps := s.pwr.capSteps[d], wakeDoorbell := s.bit R.PWR_WAKE_EN 0,
             autoIdle := s.bit R.PWR_CTRL (20 + d.val), rasSeen := s.ras.pulses, cmdBlk := x.cmdBlk.set 4 (s.reg R.CFG_EPOCH) })

/-- The die has reached state t: it reports, acts on the messages delivered meanwhile, each kind's latest and all at this state, so
that a power-state message among them moves it on after the others (R34), and judges a doorbell held (R106). -/
def State.arrive (s : State) (d : Die) (t : Nat) (driven : Bool) : State :=
  let woken := !driven && decide (t = 0)
  let s := s.modDie d (fun x => { x with power := t, moving := none, selfWoken := woken })
  let s := s.bridgeEvent d (.stateReached t driven)
  let ms := latestOfKind s.dies[d].msgs
  let s := s.modDie d (fun x => { x with msgs := [] })
  let s := (ms.filter (fun m => !sameKind m (.power 0)) ++ ms.filter (sameKind (.power 0))).foldl
    (fun (s : State) m => s.actMessage d m (fun _ => true)) s
  if s.dies[d].doorbellHeld then (s.modDie d (fun x => { x with doorbellHeld := false })).doorbellWake d else s

/-- The location code of the part that failed a raise (R443). -/
def State.raiseLoc (s : State) (d : Die) (r : RaiseResult) : Word :=
  match r with
  | .repairTier0 (some c) l => s.locCore d.val c.val 4 (l % 256)
  | .repairTier0 none l => s.loc 0 d.val 4 (l % 256)
  | .repairStaging c p => s.locCore d.val (c % 128) 3 (p % 256)
  | .repairArray c a => s.locCore d.val (c % 128) 0 (a % 256)
  | .tier1Untrained c => s.loc 0 d.val 6 (c % 256)
  | _ => s.loc 0 d.val 0 0

/-- The raise fails for good (R443). -/
def raiseFails : RaiseResult → Bool
  | .repairTier0 _ _ | .repairStaging _ _ | .repairArray _ _ | .tier1Untrained _ => true
  | _ => false

/-- The link rate that the switch port of die d reports after a raise: 64 GT/s x16, or the reduced one it trained to (R413). -/
def Switch.portTrained (w : Switch) (d : Die) (r : RaiseResult) : Switch :=
  let (a, b) := match r with | .pcieReduced speed width => (speed, width) | _ => (6, 16)
  { w with speed := w.speed.set d.val a, width := w.width.set d.val b }

/-- A raise from Midnight ends (R442, R443). One that failed answers every request made so far, so no power-state message stays held
for the die. -/
def State.endRaise (s : State) (d : Die) (t : Nat) (r : RaiseResult) : State :=
  if raiseFails r then
    let s := s.modDie d (fun x => { x with moving := none, msgs := x.msgs.filter (fun m => !sameKind m (.power 0)) })
    let s := { s with pwr := { s.pwr with raiseFailed := s.pwr.raiseFailed.set d true, request := s.pwr.request.set d none } }
    s.bridgeEvent d (.raiseFailed (s.raiseLoc d r))
  else
    let bad := match r with | .linkUntrained k => some k.val | _ => none
    let s := s.modDie d (fun x => { x with pcieUp := decide (r ≠ .pcieUntrained), power := t })
    let s := { s with sw := s.sw.portTrained d r }
    let s := ((s.trainLinks d bad).seedDie d).arrive d t true
    s.followPorts (fun e => decide (e ≠ d) && s.portAwake e)

/-- POWER_STATE_REACHED (R106, R107, R109, R442, R443). -/
def State.stateReached (s : State) (d : Die) (r : RaiseResult) : State :=
  match s.dies[d].moving with
  | none => s
  | some (t, driven) =>
    if s.dies[d].power = 5 then s.endRaise d t r
    else
      let was := s.portAwake
      if t = 5 then
        let s := s.loseDie d
        (s.bridgeEvent d (.stateReached 5 driven)).followPorts was
      else
        let s := s.modDie d (fun x => x.passTo t)
        (s.arrive d t driven).followPorts was

/-- POWER_STATE_REACHED. -/
def execPowerStateReached (d : Die) (r : RaiseResult) (s : State) : Host.Outcome State Fault Refusal :=
  .next (s.stateReached d r)

/-! ### The Prilliner's part (R98, R107, R403, R435) -/

/-- WAKE_N is driven while PERST_N is low and PF_CTRL.wake_en is 1 (R429). -/
def State.driveWake (s : State) : State :=
  if !s.pins.perstN && bitAt s.pf.ctrl 0 then { s with pins := { s.pins with wakeN := false } } else s

/-- The stop-line test of a raise failed (R403). -/
def State.stopLineFailed (s : State) (d : Die) : State :=
  let s := (s.putBit R.SAF_DIAG (3 + d.val) false).putBit R.SAF_DIAG (7 + d.val) true
  (s.putBit R.SAF_CAUSE 7 true).alert R.SAF_ALERT 2

/-- A raise of die d from Midnight to state t (R98, R403, R435, R442). -/
def State.raise (s : State) (d : Die) (t : Nat) (stopOk : Bool) : State :=
  if s.bit R.SUP_STATUS 0 || !s.pwr.ucodeOk then s.alert R.PWR_ALERT 3
  else if !stopOk then (s.setRequest d none).stopLineFailed d
  else
    let s := (s.putBit R.SAF_DIAG (3 + d.val) true).putBit R.SAF_DIAG (7 + d.val) false
    (s.startMove d t true).driveWake

/-- A request of die d for state t is carried out: a raise, or a state message (R107). -/
def State.carry (s : State) (d : Die) (t : Nat) (stopOk : Bool) : State :=
  let s := (s.setRequest d (some t)).setPending d true
  if s.dies[d].power = 5 ∧ s.dies[d].moving.isNone then s.raise d t stopOk else s.bridgeSend d (.power t)

/-- No power-state message to die d is under way. -/
def State.noPowerMsg (s : State) (d : Die) : Bool := s.dies[d].msgs.all (fun m => !sameKind m (.power 0))

/-- A PWR_CTRL target of die d applied at a boundary (R107, R113, R443). -/
def State.requestState (s : State) (d : Die) (t : Nat) (stopOk : Bool) : State :=
  if 5 < t ∨ s.protective then s
  else
    let s := s.setPwrTarget d t
    if t < 5 ∧ s.pwr.raiseFailed[d] ∧ s.bit R.SAF_CAUSE 9 then s.setPending d true
    else
      let s : State := { s with pwr := { s.pwr with raiseFailed := s.pwr.raiseFailed.set d false } }
      if s.dies[d].power = t ∧ s.dies[d].moving.isNone ∧ s.noPowerMsg d then (s.setRequest d none).setPending d false
      else s.carry d t stopOk

/-- POWER_STATE_REQUEST (R107). -/
def execPowerStateRequest (d : Die) (target : BitVec 3) (stopLineOk : Bool) (s : State) : Host.Outcome State Fault Refusal :=
  .next (if s.prilRuns then s.requestState d target.toNat stopLineOk else s)

/-- A held request is retried at a boundary (R98, R106, R435). -/
def State.retryRequest (s : State) (d : Die) (stopOk : Bool) : State :=
  match s.pwr.request[d] with
  | none => s
  | some t =>
    let x := s.dies[d]
    if x.moving.isSome ∨ x.power = t then s
    else if x.power = 5 then s.raise d t stopOk
    else if s.noPowerMsg d then (s.alert R.PWR_ALERT 3).bridgeSend d (.power t)
    else s

/-- One report of die d appears in PWR_STATE: it completes the request for that state (R106, R107). A self-return or self-wake that
reaches the requested state completes it too, without state_done (R109). -/
def State.applyOneReport (s : State) (d : Die) (r : Nat × Bool) : State :=
  let s := (s.setShown d r.1).alertIf r.2 R.PWR_ALERT 0
  if s.pwr.request[d] = some r.1 then (s.setRequest d none).setPending d false else s

/-- The states reported since the last boundary appear in PWR_STATE, in order (R107, R109). -/
def State.applyReport (s : State) (d : Die) : State :=
  let rs := s.pwr.report[d]
  let s : State := { s with pwr := { s.pwr with report := s.pwr.report.set d [] } }
  rs.foldl (fun (s : State) r => s.applyOneReport d r) s

/-- A die that asked to be woken is woken (R108, R109). -/
def State.applyWakeDie (s : State) (d : Die) : State :=
  if s.pwr.wakeDie[d] then
    let s := { s with pwr := { s.pwr with wakeDie := s.pwr.wakeDie.set d false } }
    if s.protective then s
    else (((s.setPwrTarget d 0).setReg R.PWR_WAKE_SRC 1).alert R.PWR_ALERT 1).carry d 0 true
  else s

/-- The wake values of die d change: each new value goes to every powered die (R109). -/
def State.sendWakeConfig (s : State) (d : Die) : State :=
  if s.dies[d].power < 5 ∨ s.dies[d].moving.isSome then
    s.bridgeSend d (.wakeConfig (s.bit R.PWR_WAKE_EN 0) (s.bit R.PWR_CTRL (20 + d.val)))
  else s

/-! ### Small hours (R64, R446) -/

/-- Every die target is Midnight and every die is in Midnight. -/
def State.allMidnight (s : State) : Bool :=
  (List.finRange 4).all (fun d => decide (s.pwrTarget d = 5) && decide (s.dies[d].power = 5) && s.dies[d].moving.isNone)

/-- Pair sleep is agreed: both trays report sleep_req, all targets are Midnight, PWR_WAKE_EN.pair is 1 and PAIR_SLEEP is agreed
(R381). -/
def State.pairSleepReady (s : State) : Bool :=
  s.bit R.PAIR_CTRL 1 && s.bit R.PWR_WAKE_EN 2 && s.agreed 3
    && (match s.pair.last with | some f => f.sleepReq | none => false)

/-- PWR_CTRL.sleep is acted on at a boundary (R350, R381, R446). An accepted tray holds it until pair sleep is agreed, sends a
SLEEP frame then, and enters when both SLEEP frames have been exchanged. -/
def State.judgeSleep (s : State) : State :=
  if !s.bit R.PWR_CTRL 16 || s.pwr.entering || s.pwr.stopped then s
  else if s.accepted then
    if !s.allMidnight || !s.pairSleepReady then s.alert R.PAIR_ALERT 7
    else if s.scanning then s
    else if s.pair.sleepSent && s.pair.peerSleep then { s with pwr := { s.pwr with entering := true } }
    else { s with pair := { s.pair with sleepSent := true } }
  else if !s.allMidnight || s.scanning then s
  else { s with pwr := { s.pwr with entering := true } }

/-- SLEEP (R446): the boundary at which PWR_CTRL.sleep is acted on. -/
def execSleep (s : State) : Host.Outcome State Fault Refusal := .next (if s.prilRuns then s.judgeSleep else s)

/-- SLEEP_ENTRY_DONE (R446): the tray is in Small hours; the Prilliner, the tracker and the switch stop (R64, R414). -/
def State.fallAsleep (s : State) : State :=
  { s with pwr := { s.pwr with entering := false, stopped := true, smallHours := true },
           ras := { s.ras with stopAt := s.now },
           pair := { s.pair with sleepSent := false, peerSleep := false } }.showTray

/-- SLEEP_ENTRY_DONE. A wake source that arrived during the entry abandons it at the next boundary (R446), and an active update slot
holds it (R350). -/
def execSleepEntryDone (s : State) : Host.Outcome State Fault Refusal :=
  .next (if s.pwr.entering ∧ s.pwr.wakeSrc.isNone ∧ !s.scanning then s.fallAsleep else s)

/-- The raster resumes at the start of the frame after the held one (R64): in TRACK with the fallback raster in UNLOCKED. -/
def State.resumeRaster (s : State) : State :=
  let (n, per, st) := s.modeRaster s.rasMode
  s.cutFrame n per st

/-- The tray wakes to Midnight from source n (R84, R111, R446); it counts the wake and sends WAKE frames (R381). -/
def State.wakeUp (s : State) (n : Nat) : State :=
  let s := { s with pwr := { s.pwr with stopped := false, smallHours := false, wakeSrc := none } }
  let s := (s.putBit R.PWR_CTRL 16 false).showTray
  let s := ((s.setReg R.PWR_WAKE_SRC (BitVec.ofNat 32 n)).alert R.PWR_ALERT 1).alert R.ALERT_PORT 4
  let s := s.resumeRaster
  { s with pair := { s.pair with sendWake := s.accepted, graceUntil := s.now + usTicks 103200 } }

/-- A wake source n of R108: from Small hours it wakes the tray at once; during the entry, and in Midnight, it is recorded at the
next boundary (R111, R446). -/
def State.wakeTray (s : State) (n : Nat) : State :=
  if s.pwr.smallHours then s.wakeUp n
  else if !s.pwr.stopped && (s.pwr.entering || decide (s.fld R.PWR_STATE 18 16 = 5)) then
    { s with pwr := { s.pwr with wakeSrc := some n } }
  else s

/-- A recorded wake at its boundary: an entry in progress is abandoned (R111, R446). -/
def State.applyWakeSrc (s : State) : State :=
  match s.pwr.wakeSrc with
  | none => s
  | some n =>
    let s := (s.setReg R.PWR_WAKE_SRC (BitVec.ofNat 32 n)).alert R.PWR_ALERT 1
    let s := if s.pwr.entering then s.putBit R.PWR_CTRL 16 false else s
    { s with pwr := { s.pwr with wakeSrc := none, entering := false }, pair := { s.pair with sleepSent := false, peerSleep := false } }

/-- WAKE_TIMER_EXPIRY (R446): the timer runs only in Small hours. -/
def execWakeTimerExpiry (s : State) : Host.Outcome State Fault Refusal :=
  .next (if s.pwr.smallHours ∧ s.fld R.PWR_WAKE_EN 31 16 ≠ 0 then s.wakeUp 4 else s)

/-- MCS_N_WAKE (R84, R446): a falling edge wakes the tray once the Prilliner has stopped; before that it begins a frame. -/
def execMcsNWake (s : State) : Host.Outcome State Fault Refusal := .next (if s.pwr.smallHours then s.wakeUp 5 else s)

/-- PWR_CTRL written at its boundary (R107, R109, R113, R446). -/
def State.writePwrCtrl (s : State) (val : Word) (stopOk : Die → Bool) : State :=
  let auto := s.fld R.PWR_CTRL 23 20
  let s := (s.putBit R.PWR_CTRL 16 (bitAt val 16)).setFld R.PWR_CTRL 23 20 (field val 23 20)
  let above := !s.protective && (List.finRange 4).any (fun d : Die => decide (field val (4 * d.val + 2) (4 * d.val) < 5))
  let s := if above || !bitAt val 16 then
      { s with pwr := { s.pwr with entering := false }, pair := { s.pair with sleepSent := false, peerSleep := false } }
    else s
  let s := (List.finRange 4).foldl (fun (s : State) (d : Die) =>
    s.requestState d (field val (4 * d.val + 2) (4 * d.val)) (stopOk d)) s
  if auto = field val 23 20 then s
  else (List.finRange 4).foldl (fun (s : State) (d : Die) => s.sendWakeConfig d) s

/-- PWR_WAKE_EN written at its boundary (R109). -/
def State.writeWakeEn (s : State) (val : Word) : State :=
  let was := s.bit R.PWR_WAKE_EN 0
  let s := s.setReg R.PWR_WAKE_EN (val &&& 0xFFFF0007#32)
  if was = bitAt val 0 then s else (List.finRange 4).foldl (fun (s : State) (d : Die) => s.sendWakeConfig d) s

/-! ### Power limits (R112) -/

/-- Largest number of clock steps: 1.25 GHz down to 312.5 MHz in steps of 78.125 MHz (R112, R125). -/
abbrev maxSteps : Nat := 12

/-- PWR_LIMIT or PWR_DIE_LIMIT written at its boundary. -/
def State.writePwrLimit (s : State) (a : Nat) (val : Word) : State :=
  let ok := if a = R.PWR_LIMIT then decide (300 ≤ field val 11 0 ∧ field val 11 0 ≤ 1960)
            else decide (60 ≤ field val 8 0 ∧ field val 8 0 ≤ 460)
  if ok then s.setReg a (if a = R.PWR_LIMIT then val &&& 0xFFF#32 else val &&& 0x1FF#32) else s.alert R.PWR_ALERT 4

/-- The throttle message of die d (R126). -/
def State.sendThrottle (s : State) (d : Die) : State := s.bridgeSend d (.throttle s.thm.steps[d] s.pwr.capSteps[d])

/-- A die's cap steps after a boundary, given its power and the tray's in 0.1 W over the past mt (R112). -/
def State.capOf (s : State) (d : Die) (die tray : Nat) : Nat :=
  let n := s.pwr.capSteps[d]
  let dieLim := 10 * s.fld R.PWR_DIE_LIMIT 8 0
  let lim := 10 * s.fld R.PWR_LIMIT 11 0
  if dieLim < die ∨ (lim < tray ∧ s.dies[d].power = 0) then min maxSteps (n + 1)
  else if die * 100 < 95 * dieLim ∧ tray * 100 < 95 * lim then n - 1 else n

/-- The power limits act at a boundary (R112): measured powers in 0.1 W. -/
def State.applyPower (s : State) (tray : Nat) (die : Vector Nat 4) : State :=
  let s := s.setReg R.SUP_PBUS (BitVec.ofNat 32 (satAt 0xFFFF tray))
  let s := (List.finRange 4).foldl (fun (s : State) (d : Die) => s.setReg (R.PWR_DIE0 + d.val) (BitVec.ofNat 32 (satAt 0xFFFF die[d]))) s
  let s := (List.finRange 4).foldl (fun (s : State) (d : Die) =>
    let n := s.capOf d die[d] tray
    if n = s.pwr.capSteps[d] then s
    else { s with pwr := { s.pwr with capSteps := s.pwr.capSteps.set d n } }.sendThrottle d) s
  s.alertIf (s.pwr.capSteps.any (fun n => decide (0 < n))) R.PWR_ALERT 2

/-! ### The dies' events (R33, R108, R149, R443) -/

/-- The Prilliner takes an event of die d (R33). A checkpoint report has its own command. -/
def State.takeEvent (s : State) (d : Die) (e : DieEvent) : State :=
  match e with
  | .stateReached n driven => { s with pwr := { s.pwr with report := s.pwr.report.set d (s.pwr.report[d] ++ [(n, driven)]) } }
  | .memUe loc =>
    let s := (s.bumpSat R.SAF_ECC 15 0 1).alert R.SAF_ALERT 3
    { s.putBit R.SAF_CAUSE 9 true with saf := { s.saf with locs := s.saf.locs ++ [(9, loc)] } }
  | .quiesced _ => s
  | .doorbellWake => { s with pwr := { s.pwr with wakeDie := s.pwr.wakeDie.set d true } }
  | .checkpoint _ _ => s
  | .raiseFailed loc =>
    let s := (s.putBit R.SAF_CAUSE 9 true).alert R.SAF_ALERT 3
    { s with saf := { s.saf with raiseFails := s.saf.raiseFails ++ [loc] } }

/-- Whether an event is a checkpoint report. -/
def DieEvent.isCheckpoint : DieEvent → Bool
  | .checkpoint _ _ => true
  | _ => false

/-- The first event of a list that satisfies p, and the list without it. -/
def takeFirst (p : DieEvent → Bool) : List DieEvent → Option (DieEvent × List DieEvent)
  | [] => none
  | e :: es => if p e then some (e, es) else (takeFirst p es).map (fun r => (r.1, e :: r.2))

/-- DIE_BRIDGE_EVENT (R33): the oldest event of die d other than a checkpoint report reaches the Prilliner. -/
def execDieBridgeEvent (d : Die) (s : State) : Host.Outcome State Fault Refusal :=
  .next (match takeFirst (fun e => !e.isCheckpoint) s.dies[d].events with
    | some (e, rest) => if s.pwr.stopped then s else (s.modDie d (fun x => { x with events := rest })).takeEvent d e
    | none => s)

end Sys2Proof.Machine
end

