-- ==== Sys2Proof/Machine/Supply.lean ====
section
/-!
DEFINITION. The supply monitor (04_supply_and_power_states R96-R103): samples, the sag and overvoltage comparators, SAG_WARN,
SAG_RESET, the overvoltage reset and their release, and the collapse of VRES.
-/
namespace Sys2Proof.Machine

open Sys2Proof

/-- A run of consecutive samples: one more, or none. -/
def runOf (b : Bool) (n : Nat) : Nat := if b then n + 1 else 0

/-- The mean of the samples held (at most 16), rounded down (assumption log 15). -/
def meanOf (xs : List Nat) : Nat := if xs.isEmpty then 0 else xs.sum / xs.length

/-- A sample joins the last 16. -/
def push16 (x : Nat) (xs : List Nat) : List Nat := (x :: xs).take 16

/-- The sag levels in 10 mV. -/
def State.warnLevel (s : State) : Nat := 10 * s.fld R.SUP_SAG_WARN 9 0
def State.resetLevel (s : State) : Nat := 10 * s.fld R.SUP_SAG_RESET 9 0

/-- A status bit follows its condition; its alert sets on a rise. -/
def State.followBit (s : State) (i al : Nat) (b : Bool) : State :=
  (s.alertIf (b && !s.bit R.SUP_STATUS i) R.SUP_ALERT al).putBit R.SUP_STATUS i b

/-- A 1 us sample (R96, R97, R363): bus in 10 mV, current in 10 mA, VRES in 10 mV. -/
def State.takeSample (s : State) (v i r : Nat) : State :=
  let u := s.sup
  let warn := s.warnLevel
  let reset := s.resetLevel
  let s : State := { s with sup :=
    { u with belowWarn := runOf (decide (v < warn)) u.belowWarn, aboveWarn := runOf (decide (warn + 100 ≤ v)) u.aboveWarn,
             belowReset := runOf (decide (v < reset)) u.belowReset, aboveReset := runOf (decide (reset + 100 ≤ v)) u.aboveReset,
             atOv := runOf (decide (5800 ≤ v)) u.atOv, belowOv := runOf (decide (v < 5700)) u.belowOv,
             vbus := push16 v u.vbus, ibus := push16 i u.ibus, vres := push16 r u.vres } }
  let s := (s.followBit 3 2 (decide (v < 4400))).followBit 4 3 (decide (5600 < v))
  let s := s.setFld R.SUP_VBUS 15 0 (satAt 0xFFFF (meanOf s.sup.vbus))
  let s := s.setFld R.SUP_IBUS 15 0 (satAt 0xFFFF (meanOf s.sup.ibus))
  let s := s.setFld R.HV_VRES 15 0 (satAt 0xFFFF r)
  let s := s.setFld R.SUP_MIN_VBUS 15 0 (min (s.fld R.SUP_MIN_VBUS 15 0) v)
  s.putBit R.HV_STATUS 9 (!s.bit R.SUP_STATUS 1)

/-- The supply monitor runs: in every state but a Prilliner stopped by VRES (R100, R104). -/
def State.monitorRuns (s : State) : Bool := !s.pwr.stopped || s.pwr.smallHours

/-- SUPPLY_SAMPLE (R96, R97). -/
def execSupplySample (vbus ibus vres : Nat) (s : State) : Host.Outcome State Fault Refusal :=
  .next (if s.monitorRuns then s.takeSample vbus ibus vres else s)

/-- SAG_WARN asserts (R98). -/
def State.sagWarn (s : State) : State :=
  let s := (s.putBit R.SUP_STATUS 0 true).bumpSat R.SUP_EVENTS 15 0 1
  let s : State := { s with sup := { s.sup with warnAt := s.now } }
  (s.urgentNow R.SUP_ALERT 0 0).layCard

/-- SAG_WARN (R97, R98): 20 consecutive samples below the level. -/
def execSagWarn (s : State) : Host.Outcome State Fault Refusal :=
  .next (if s.monitorRuns ∧ 20 ≤ s.sup.belowWarn ∧ !s.bit R.SUP_STATUS 0 then s.sagWarn else s)

/-- SAG_WARN_RELEASE (R97): held raises proceed at the next boundary. -/
def execSagWarnRelease (s : State) : Host.Outcome State Fault Refusal :=
  .next (if s.monitorRuns ∧ 20 ≤ s.sup.aboveWarn then s.putBit R.SUP_STATUS 0 false else s)

/-- States of the dies as bits 3d + 2:3d. -/
def State.dieStates (s : State) : Nat :=
  s.dies[0].power + 8 * s.dies[1].power + 64 * s.dies[2].power + 512 * s.dies[3].power

/-- Pixels in flight of slots that are not a Park. -/
def State.updatePixels (s : State) : Nat :=
  (s.pnl.pixels.filter (fun p => pxValid p.2 && decide ((s.slotAt (pxSlot p.2)).mode ≠ 5))).length

/-- The SUPPLY_RESET payload (R101). -/
def State.supplyPayload (s : State) (cause : Nat) : List Byte :=
  let warn := s.bit R.SUP_STATUS 0
  leBytes 1 cause ++ leBytes 1 (b2n warn + 2 * b2n s.scanning) ++ leBytes 2 (satAt 0xFFFF (s.sup.vbus.headD 0))
    ++ leBytes 2 (s.fld R.SUP_MIN_VBUS 15 0) ++ leBytes 2 (s.fld R.HV_VRES 15 0)
    ++ leBytes 4 (if warn then satAt 0xFFFFFFFF ((s.now - s.sup.warnAt) / 400) else 0)
    ++ leBytes 2 (s.fld R.SUP_PBUS 15 0) ++ leBytes 2 s.pwr.before ++ leBytes 4 s.updatePixels

/-- SAG_RESET (cause 1) or the overvoltage reset (cause 2) asserts (R96, R99, R101). -/
def State.supplyReset (s : State) (cause : Nat) : State :=
  let s : State := { s with pwr := { s.pwr with before := s.dieStates } }
  let payload := s.supplyPayload cause
  let s := (s.putBit R.SUP_STATUS 1 true).putBit R.SUP_STATUS 5 true
  let s := if cause = 2 then s.putBit R.SUP_STATUS 2 true else s
  let s : State := { s with sup := { s.sup with sagOn := s.sup.sagOn || decide (cause = 1), ovOn := s.sup.ovOn || decide (cause = 2) },
                            pnl := { s.pnl with sagStop := s.scanning } }
  let s := (s.putBit R.HV_STATUS 9 false).bumpSat R.SUP_EVENTS 31 16 1
  let s := s.urgent R.SUP_ALERT 1
  let s := (s.logEvent kSupply (s.loc 3 0 0 0) payload).armCard 2
  s.diesOff.putBit R.PWR_STATE 24 true

/-- SAG_RESET (R97, R99): 20 consecutive samples below the level. -/
def execSagReset (s : State) : Host.Outcome State Fault Refusal :=
  .next (if s.monitorRuns ∧ 20 ≤ s.sup.belowReset ∧ !s.sup.sagOn then s.supplyReset 1 else s)

/-- OVERVOLTAGE_RESET (R96): 20 us at or above 58.0 V. -/
def execOvervoltageReset (s : State) : Host.Outcome State Fault Refusal :=
  .next (if s.monitorRuns ∧ 20 ≤ s.sup.atOv ∧ !s.sup.ovOn then s.supplyReset 2 else s)

/-- The resets whose release condition holds are released; when none is left the Prilliner recovers (R96, R97, R102). A
comparator that failed its self-test stays asserted (R402). -/
def State.releaseSupply (s : State) : State :=
  let sag := s.sup.sagOn && (decide (s.sup.aboveReset < 20) || s.saf.failedMonitors.contains .sag)
  let ov := s.sup.ovOn && (decide (s.sup.belowOv = 0) || s.saf.failedMonitors.contains .overvoltage)
  let s : State := { s with sup := { s.sup with sagOn := sag, ovOn := ov } }
  let s := s.putBit R.SUP_STATUS 2 ov
  if sag || ov || !s.bit R.SUP_STATUS 1 then s
  else
    let s := ((s.putBit R.SUP_STATUS 1 false).putBit R.SUP_STATUS 5 false).putBit R.HV_STATUS 9 true
    ((s.alert R.SUP_ALERT 4).setReg R.MG_RESET_CAUSE 4).forceMidnight

/-- SAG_RESET_RELEASE (R96, R97, R102). -/
def execSagResetRelease (s : State) : Host.Outcome State Fault Refusal :=
  .next (if s.monitorRuns then s.releaseSupply else s)

/-- VRES_COLLAPSE (R100): below 6.0 V while running from it, the Prilliner stops, and so do an entry to Small hours and a Tidemark
write in progress. -/
def execVresCollapse (s : State) : Host.Outcome State Fault Refusal :=
  .next (if s.onVres ∧ s.fld R.HV_VRES 15 0 < 600 then
      let s := s.tearRecord
      { s with pwr := { s.pwr with stopped := true, smallHours := false, entering := false } }
    else s)

/-- SUP_SAG_WARN or SUP_SAG_RESET written at its boundary (R103). -/
def State.writeSag (s : State) (a : Nat) (val : Word) : State :=
  let v := field val 9 0
  let warn := if a = R.SUP_SAG_WARN then v else s.fld R.SUP_SAG_WARN 9 0
  let reset := if a = R.SUP_SAG_WARN then s.fld R.SUP_SAG_RESET 9 0 else v
  let ok := decide (380 ≤ warn ∧ warn ≤ 460) && decide (330 ≤ reset ∧ reset ≤ 400) && decide (reset + 20 ≤ warn)
  if ok then s.setReg a (BitVec.ofNat 32 v) else s.alert R.SUP_ALERT 5

end Sys2Proof.Machine
end

