-- ==== Sys2Proof/Machine/Thermal.lean ====
section
/-!
DEFINITION. Temperature sensing and protection (05_thermal): scans, policies, rates, sampling modes, throttling, trips, fault
classification, re-arm, and the THM_ registers that are checked when written.
-/
namespace Sys2Proof.Machine

open Sys2Proof

/-! ### Channels (R115, R118) -/

/-- Channel c's reading. -/
def State.chan (s : State) (c : Nat) : Chan := s.thm.chans[c]?.getD Chan.reset
def State.setChan (s : State) (c : Nat) (x : Chan) : State :=
  { s with thm := { s.thm with chans := s.thm.chans.setIfInBounds c x } }

def State.group (s : State) (g : Fin 5) : Group := s.thm.groups[g]
def State.setGroup (s : State) (g : Fin 5) (x : Group) : State := { s with thm := { s.thm with groups := s.thm.groups.set g x } }

/-- First channel of a group and its number of channels (R119). -/
def groupBase (g : Fin 5) : Nat := 64 * g.val
def groupSize (g : Fin 5) : Nat := if g.val < 4 then 64 else 9

/-- Trip and throttle thresholds of a channel (R118). -/
def State.tripOf (s : State) (c : Nat) : Nat := if c < 256 then s.fld R.THM_TRIP 9 0 else s.fld R.THM_TRIP 25 16
def State.throttleOf (s : State) (c : Nat) : Nat := if c < 256 then s.fld R.THM_THROTTLE 9 0 else s.fld R.THM_THROTTLE 25 16

/-- The location code of a channel (R115). -/
def State.chanLoc (s : State) (c : Nat) : Word :=
  if c < 256 then s.loc 0 (c / 64) 0xA (c % 64)
  else if c < 258 then s.loc 4 0 0xA (c - 256)
  else if c < 264 then s.loc 5 0 0xA (c - 258)
  else s.loc 6 0 0xA 0

/-- THM_POLICY selects CROSS_CHECK for junction channel c (R133). -/
def State.crossCheck (s : State) (c : Nat) : Bool := s.bit (R.THM_POLICY0 + c / 32) (c % 32)

/-- Line n of group g is faulty (R131). -/
def State.lineFaulty (s : State) (g : Fin 5) (n : Nat) : Bool := (s.group g).failed.any (fun f => f.1 == n)

/-- A line of channel c's cell, or its lead, is faulty. -/
def State.chanLineFault (s : State) (c : Nat) : Bool :=
  if h : c < 256 then
    let g : Fin 5 := ⟨c / 64, by omega⟩
    s.lineFaulty g (c % 64 / 8) || s.lineFaulty g (8 + c % 8)
  else s.lineFaulty 4 (c - 256)

/-- The channel's reading of this scan counts as valid (R116, R132). A tray channel whose lead failed counts as invalid even where
its code is valid; R132 says so of the cells of a faulty line alone (DESIGN CHOICE, assumption log 51). -/
def State.chanValid (s : State) (c : Nat) : Bool :=
  codeValid (s.chan c).raw && (decide (c = 264) || !s.chanLineFault c)

/-- The orthogonal neighbours of a junction channel's cell (R133). -/
def neighbours (c : Nat) : List Nat :=
  let r := c % 64 / 8
  let k := c % 8
  (if 0 < r then [c - 8] else []) ++ (if r < 7 then [c + 8] else []) ++ (if 0 < k then [c - 1] else []) ++ (if k < 7 then [c + 1] else [])

/-! ### Rates (R121), in codes per tick -/

/-- 400 us in ticks. -/
abbrev refAge : Nat := 160000

/-- The newest reading of a history (newest first) that is at least 400 us old at t. -/
def oldEnough (t : Nat) : List (Nat × Nat) → Option (Nat × Nat)
  | [] => none
  | h :: hs => if h.1 + refAge ≤ t then some h else oldEnough t hs

/-- A history with a new reading, cut after the first entry that is at least 400 us old. -/
def cutHist (t : Nat) : List (Nat × Nat) → List (Nat × Nat)
  | [] => []
  | h :: hs => if h.1 + refAge ≤ t then [h] else h :: cutHist t hs

/-- A valid reading gives a rate against the reference reading (R121). -/
def Chan.newRate (x : Chan) (t : Nat) : Chan :=
  let ref := match oldEnough t x.hist with
    | some h => some h
    | none => x.hist.head?
  let x := match ref with
    | some (t0, c0) => if t0 < t then { x with rateNum := (x.raw : Int) - c0, rateDen := t - t0 } else x
    | none => x
  { x with hist := cutHist t ((t, x.raw) :: x.hist) }

/-- The rate is at least n tenths of a degree per ms: a code per tick is 10^5 C/ms. -/
def Chan.rateAtLeast (x : Chan) (n : Nat) : Bool := decide ((n : Int) * x.rateDen ≤ x.rateNum * 1000000)

/-- a / b rounded to nearest, halves away from zero. -/
def roundAway (a : Int) (b : Nat) : Int :=
  if b = 0 then 0 else if 0 ≤ a then (2 * a + b) / (2 * b) else -((2 * (-a) + b) / (2 * b))

/-! ### Effective codes (R117, R133) -/

/-- The codes of a scan become raw codes, in channel order from c. -/
def State.readCodes (s : State) (c : Nat) : List (BitVec 10) → State
  | [] => s
  | x :: xs => (s.setChan c { s.chan c with raw := x.toNat, read := true }).readCodes (c + 1) xs

/-- Channel c's reading at t: a valid one gives the effective code and a rate (R117, R121). -/
def State.takeReading (s : State) (t c : Nat) : State :=
  if s.chanValid c then
    let x := s.chan c
    let x := if c < 256 then x.newRate t else x
    s.setChan c { x with eff := x.raw, validRun := x.validRun + 1 }
  else s.setChan c { s.chan c with validRun := 0 }

/-- The substituted code of an invalid channel, and whether it is a CROSS_CHECK substitution (R133). -/
def State.substitute (s : State) (c : Nat) : Nat × Bool :=
  let hot := s.tripOf c + 4
  if c < 256 ∧ s.crossCheck c then
    let ns := (neighbours c).filter s.chanValid
    if ns.isEmpty then (hot, false) else (min 0x3FE (ns.foldl (fun m n => max m (s.chan n).eff) 0 + 20), true)
  else (hot, false)

/-- Channel c's substitution begins, lasts or ends (R133). -/
def State.judgeSubst (s : State) (c : Nat) : State :=
  let x := s.chan c
  if c = 264 then s.setChan c { x with eff := x.raw }
  else if s.chanValid c then s.setChan c { x with subst := false, crossed := false }
  else
    let (e, cross) := s.substitute c
    (s.setChan c { x with eff := e, subst := true, crossed := cross }).alertIf (!x.subst) R.THM_ALERT 6

/-- Channels of a group. -/
def groupChans (g : Fin 5) : List Nat := (List.range (groupSize g)).map (fun i => groupBase g + i)

/-! ### Status (R120, R129, R131) -/

/-- Every junction and tray channel's effective reading is at least 20 C below its trip threshold, every group scanned (R129). -/
def State.rearmReady (s : State) : Bool :=
  s.thm.groups.all (fun g => decide (0 < g.scans))
    && (List.range 264).all (fun c => decide ((s.chan c).eff + 80 ≤ s.tripOf c))

/-- Some channel of die d satisfies p. -/
def State.anyCell (s : State) (d : Nat) (p : Chan → Bool) : Bool := (List.range 64).any (fun i => p (s.chan (64 * d + i)))

/-- THM_STATUS and THM_FAULT show the front end's state. -/
def State.showThermal (s : State) : State :=
  let bits4 (f : Nat → Bool) : Nat := b2n (f 0) + 2 * b2n (f 1) + 4 * b2n (f 2) + 8 * b2n (f 3)
  let warn := s.fld R.THM_ROR 7 0
  let ror := (List.range 256).any (fun c => (s.chan c).rateAtLeast warn && decide (0 < warn))
  let s := s.alertIf (ror && !s.bit R.THM_STATUS 7) R.THM_ALERT 2
  let s := s.setFld R.THM_STATUS 3 0 (bits4 (fun d => decide (0 < s.thm.steps[d]?.getD 0)))
  let s := (s.putBit R.THM_STATUS 6 s.rearmReady).putBit R.THM_STATUS 7 ror
  let s := s.setFld R.THM_STATUS 11 8 (bits4 (fun d => s.anyCell d Chan.crossed))
  let modes := (List.finRange 5).foldl (fun acc g => acc + (s.group g).mode * 4 ^ g.val) 0
  let s := s.setFld R.THM_STATUS 21 12 modes
  let lines (d : Nat) := !((s.thm.groups[d]?.getD Group.reset).failed.isEmpty)
  let s := s.setFld R.THM_FAULT 3 0 (bits4 lines)
  let s := s.setFld R.THM_FAULT 7 4 (bits4 (fun d => s.anyCell d Chan.fault))
  s.putBit R.THM_FAULT 8 ((List.range 8).any (fun i => (s.chan (256 + i)).fault) || (s.group 4).failed.any (fun f => f.1 < 8))

/-- THM_HOTTEST: the hottest junction channel of n, lowest index on ties. -/
def State.hottest (s : State) (base : Nat) : Nat → Nat × Nat
  | 0 => (base, (s.chan base).eff)
  | n + 1 =>
    let (c, e) := s.hottest base n
    if e < (s.chan (base + n)).eff then (base + n, (s.chan (base + n)).eff) else (c, e)

/-! ### Fault classification (R131, R132) -/

/-- A new classification: its record, its alert, and THM_FAULT's last fields. -/
def State.classify (s : State) (class' line : Nat) (mV : Nat) (short : Bool) (loc : Word) (die chan : Nat) : State :=
  let payload := leBytes 1 class' ++ leBytes 1 line ++ leBytes 2 mV ++ leBytes 1 (if short then 2 else 1)
  let s := (s.logEvent kSense loc payload).alert R.THM_ALERT (if class' ≤ 1 then 3 else class' + 2)
  let s := ((s.putBit R.THM_FAULT 9 true).setFld R.THM_FAULT 11 10 class').setFld R.THM_FAULT 13 12 die
  let s := s.setFld R.THM_FAULT 16 14 line
  if class' ≤ 1 then s else s.setFld R.THM_FAULT 25 17 chan

/-- The channels of line n of group g. -/
def lineChans (g : Fin 5) (n : Nat) : List Nat :=
  if g.val = 4 then [256 + n]
  else if n < 8 then (List.range 8).map (fun c => groupBase g + 8 * n + c)
  else (List.range 8).map (fun r => groupBase g + 8 * r + (n - 8))

/-- Result of the integrity test of line n of group g, before the cells are read (R131). -/
def State.testLine (s : State) (g : Fin 5) (bad : List LineFail) (n : Nat) : State :=
  let x := s.group g
  let rest := x.failed.filter (fun f => f.1 != n)
  match bad.find? (fun b => b.line == n) with
  | some b =>
    let was := s.lineFaulty g n
    let s := s.setGroup g { x with failed := rest ++ [(n, 0)] }
    if was ∨ 4 ≤ g.val then s
    else if n < 8 then s.classify 0 n b.mV b.short (s.loc 0 g.val 0xA (8 * n)) g.val 0
    else s.classify 1 (n - 8) b.mV b.short (s.loc 0 g.val 0xA (n - 8)) g.val 0
  | none =>
    match x.failed.find? (fun f => f.1 == n) with
    | some f => s.setGroup g { x with failed := rest ++ [(n, f.2 + 1)] }
    | none => s

/-- A line that has passed two integrity scans, and whose channels read valid codes, returns to service (R131). -/
def State.returnLines (s : State) (g : Fin 5) : State :=
  let x := s.group g
  s.setGroup g { x with failed := x.failed.filter (fun f =>
    !(decide (2 ≤ f.2) && (lineChans g f.1).all (fun c => codeValid (s.chan c).raw))) }

/-- Cell and tray faults are classified at an integrity scan, after the cells are read (R132). The return of a tray lead that
passed its test was measured and is not an operand of the scan, so it is free (assumption log 7). -/
def State.classifyCell (s : State) (bad : List LineFail) (c : Nat) : State :=
  let x := s.chan c
  if x.fault ∨ c = 264 then s
  else if c < 256 then
    let row := c % 64 / 8
    let col := 8 + c % 8
    if !codeValid x.raw && bad.all (fun b => b.line != row && b.line != col) then
      (s.setChan c { x with fault := true }).classify 2 0 0xFFFF (decide (x.raw = 0)) (s.chanLoc c) (c / 64) c
    else s
  else
    match bad.find? (fun b => b.line == c - 256) with
    | some b => (s.setChan c { x with fault := true }).classify 3 0 b.mV b.short (s.chanLoc c) 0 c
    | none =>
      if codeValid x.raw then s
      else
        let (n, s) := s.draw
        (s.setChan c { x with fault := true }).classify 3 0 (Config.freeNat n % 0xFFFF) (decide (x.raw = 0)) (s.chanLoc c) 0 c

/-- A cell or tray fault clears after 8 consecutive valid readings (R132). -/
def State.clearFault (s : State) (c : Nat) : State :=
  let x := s.chan c
  if x.fault ∧ 8 ≤ x.validRun then s.setChan c { x with fault := false } else s

/-! ### Throttling (R125) -/

/-- One thermal step on die d, at most one per 100 us, down to the floor (R125). -/
def State.stepDie (s : State) (d : Die) (t : Nat) : State :=
  let ready := match s.thm.lastStepAt[d] with
    | some l => decide (l + usTicks 100 ≤ t)
    | none => true
  if ready && decide (s.thm.steps[d] < maxSteps) then
    let s : State := { s with thm := { s.thm with steps := s.thm.steps.set d (s.thm.steps[d] + 1),
                                                   lastStepAt := s.thm.lastStepAt.set d (some t) } }
    (s.sendThrottle d).alert R.THM_ALERT 1
  else s

/-- A channel reads at or above its throttle. -/
def State.hot (s : State) (c : Nat) : Bool := decide (s.throttleOf c ≤ (s.chan c).eff)

/-- The steps that a scan of group g applies. -/
def State.throttle (s : State) (g : Fin 5) (t : Nat) : State :=
  if h : g.val < 4 then
    if (groupChans g).any s.hot then s.stepDie ⟨g.val, h⟩ t else s
  else if (List.range 8).any (fun i => s.hot (256 + i)) then
    (List.finRange 4).foldl (fun (s : State) (d : Die) => if s.dies[d].power < 5 then s.stepDie d t else s) s
  else s

/-- Every junction channel of die d, and every tray channel, reads at least 2 C below its throttle. -/
def State.cool (s : State) (d : Die) : Bool :=
  let ok (c : Nat) := decide ((s.chan c).eff + 8 ≤ s.throttleOf c)
  (List.range 64).all (fun i => ok (64 * d.val + i)) && (List.range 8).all (fun i => ok (256 + i))

/-- A die that has been cool for one whole mt loses one step (R125). -/
def State.coolDie (s : State) (d : Die) (t : Nat) : State :=
  let put (s : State) (x : Option Nat) : State := { s with thm := { s.thm with coolSince := s.thm.coolSince.set d x } }
  if s.cool d then
    match s.thm.coolSince[d] with
    | none => put s (some t)
    | some t0 =>
      if t0 + mtTicks ≤ t ∧ 0 < s.thm.steps[d] then
        let s := put s (some t)
        let s : State := { s with thm := { s.thm with steps := s.thm.steps.set d (s.thm.steps[d] - 1) } }
        s.sendThrottle d
      else s
  else put s none

/-! ### Trips (R127, R128) -/

/-- The runs that a trip counts (R127): consecutive scans at or above the trip, and fast-mode scans with a valid reading whose
rate is at or above the rate trip. -/
def State.countRuns (s : State) (fast : Bool) (c : Nat) : State :=
  if c = 264 then s
  else
    let x := s.chan c
    let absRun := if s.tripOf c ≤ x.eff then x.absRun + 1 else 0
    let rateRun :=
      if 256 ≤ c then 0
      else if !fast then 0
      else if !s.chanValid c then x.rateRun
      else if x.rateAtLeast (s.fld R.THM_ROR 15 8) then x.rateRun + 1 else 0
    s.setChan c { x with absRun := absRun, rateRun := rateRun }

/-- The trip cause of a channel at the scan just made: 1 absolute, 2 rate, 3 FAIL_HOT substitution; none where it does not trip.
A scan whose reading is invalid is no evidence of a rate (R127): `validRun` is 0 after it. Of two causes at one scan the absolute
one is named, which the spec leaves open (DESIGN CHOICE, assumption log 50). -/
def Chan.tripCause (x : Chan) : Option Nat :=
  if 2 ≤ x.absRun then some (if x.subst && !x.crossed then 3 else 1)
  else if 3 ≤ x.rateRun ∧ 0 < x.validRun then some 2 else none

/-- The trip cause has arisen at this scan. -/
def Chan.tripsNow (x : Chan) : Bool := decide (x.absRun = 2) || (decide (x.rateRun = 3) && decide (0 < x.validRun))

/-- The tripping channel of a group that THM_TRIP_CAUSE and the record name: the lowest, where several trip at one scan, which the
spec leaves open (DESIGN CHOICE, assumption log 50). -/
def State.tripChan (s : State) (g : Fin 5) : Option Nat :=
  (groupChans g).find? (fun c => (s.chan c).tripCause.isSome)

/-- The rate field of the THERMAL_TRIP payload, 0.01 C/ms; open where 16 bits do not hold it (assumption log 7). -/
def State.rateField (s : State) (x : Chan) : Int × State :=
  let r := roundAway (x.rateNum * 10000000) x.rateDen
  if r < -32768 ∨ 32767 < r then let (n, s) := s.draw; (Config.freeNat n, s) else (r, s)

/-- The THERMAL_TRIP payload. -/
def State.tripPayload (s : State) (c cause : Nat) : List Byte × State :=
  let x := s.chan c
  let (r, s) := s.rateField x
  let thr := if cause = 2 then s.fld R.THM_ROR 15 8 else s.tripOf c
  let hot (d : Nat) := leBytes 2 (s.hottest (64 * d) 64).2
  (leBytes 2 c ++ leBytes 1 cause ++ leBytes 1 0 ++ leBytes 2 x.raw ++ leBytes 2 x.eff ++ leBytes 2 (codeOf 16 r) ++ leBytes 2 thr
    ++ hot 0 ++ hot 1 ++ hot 2 ++ hot 3 ++ leBytes 2 (s.chan 256).eff ++ leBytes 2 (s.chan 257).eff
    ++ s.thm.steps.toList.flatMap (fun n => leBytes 1 n), s)

/-- A thermal trip on channel c latches (R127). -/
def State.trip (s : State) (c cause : Nat) : State :=
  let x := s.chan c
  let (payload, s) := s.tripPayload c cause
  let s := (s.putBit R.THM_STATUS 4 true).putBit R.THM_STATUS 5 false
  let s : State := { s with thm := { s.thm with ackPending := false } }
  let s := s.setReg R.THM_TRIP_CAUSE (BitVec.ofNat 32 (c + cause * 512 + x.eff * 65536 + 2 ^ 31))
  let s := s.urgentNow R.THM_ALERT 0 1
  ((s.logEvent kTrip (s.chanLoc c) payload).armCard 1).diesOff

/-- Trips of a scan of group g (R127, R128): while tripped, a new cause only updates THM_ALERT. -/
def State.judgeTrip (s : State) (g : Fin 5) : State :=
  match s.tripChan g with
  | none => s
  | some c =>
    if s.bit R.THM_STATUS 4 then
      if (groupChans g).any (fun c => (s.chan c).tripsNow) then s.urgent R.THM_ALERT 0 else s
    else s.trip c (((s.chan c).tripCause).getD 0)

/-! ### Modes (R120) -/

/-- Channel c meets the near or the fast entry condition. -/
def State.entersNear (s : State) (c : Nat) : Bool := decide (c ≠ 264) && decide (s.throttleOf c ≤ (s.chan c).eff + 40)
def State.entersFast (s : State) (c : Nat) : Bool :=
  decide (c ≠ 264) && (decide (s.tripOf c ≤ (s.chan c).eff + 12)
    || (decide (c < 256) && (s.chan c).rateAtLeast (s.fld R.THM_ROR 7 0)))

/-- THM_CTRL.min_mode, 3 acting as 2. -/
def State.minMode (s : State) : Nat := min 2 (s.fld R.THM_CTRL 1 0)

/-- The group's holds and its next mode after a scan (R120). -/
def State.nextMode (s : State) (g : Fin 5) (t : Nat) : State :=
  let x := s.group g
  let fast := (groupChans g).any s.entersFast
  let near := fast || (groupChans g).any s.entersNear
  let left := if fast then 32 else x.fastLeft - 1
  let until' := if near then t + mtTicks else x.nearUntil
  let m := if 0 < left then 2 else if t < until' then 1 else 0
  s.setGroup g { x with fastLeft := left, nearUntil := until', mode := max m s.minMode, scans := x.scans + 1 }

/-! ### Scans -/

/-- One scan of group g at t (R119-R133); a converter that failed its self-test reads the open code (R402). `extra` marks an on-demand scan, which is not counted and changes no mode (R122). -/
def State.scanGroup (s : State) (t : Nat) (g : Fin 5) (codes : List (BitVec 10)) (bad : List LineFail) (extra : Bool) : State :=
  let integrity := extra || decide (((s.group g).scans + 1) % 8 = 0)
  let fast := decide ((s.group g).mode = 2)
  let chans := groupChans g
  let s := if integrity then (List.range (if g.val < 4 then 16 else 8)).foldl (fun (s : State) n => s.testLine g bad n) s else s
  let codes := if s.saf.failedMonitors.contains (.thermal g) then codes.map (fun _ => 0x3FF#10) else codes
  let s := (s.readCodes (groupBase g) (codes.take (groupSize g))).returnLines g
  let s := chans.foldl (fun (s : State) c => s.takeReading t c) s
  let s := chans.foldl (fun (s : State) c => s.judgeSubst c) s
  let s := if integrity then chans.foldl (fun (s : State) c => s.classifyCell bad c) s else s
  let s := chans.foldl (fun (s : State) c => s.clearFault c) s
  let s := chans.foldl (fun (s : State) c => s.countRuns fast c) s
  let s := s.throttle g t
  let s := (List.finRange 4).foldl (fun (s : State) (d : Die) => if g.val = 4 ∨ g.val = d.val then s.coolDie d t else s) s
  let s := s.judgeTrip g
  let s := if extra then s else s.nextMode g t
  let s := s.showThermal
  if g.val = 4 then s.selectBand else s

/-- Sampling runs in every state but Small hours, and not in a stopped Prilliner (R123). -/
def State.samples (s : State) : Bool := !s.pwr.stopped

/-- THERMAL_SCAN (R119-R133): the codes of every channel of the group, and the lines that failed if it is an integrity scan. -/
def execThermalScan (t : Nat) (g : Fin 5) (codes : List (BitVec 10)) (bad : List LineFail) (s : State) :
    Host.Outcome State Fault Refusal :=
  let s := s.at t
  .next (if s.samples ∧ codes.length = groupSize g then s.scanGroup s.now g codes bad false else s)

/-- The codes of group g out of those of all 265 channels. -/
def codesOf (g : Fin 5) (codes : List (BitVec 10)) : List (BitVec 10) := (codes.drop (groupBase g)).take (groupSize g)

/-- THM_SAMPLE (R122): one extra integrity scan of every group. -/
def execThmSample (t : Nat) (codes : List (BitVec 10)) (bad : List (Fin 5 × LineFail)) (s : State) :
    Host.Outcome State Fault Refusal :=
  let s := s.at t
  .next (if s.samples ∧ s.thm.sampleReq ∧ codes.length = 265 then
    let s := (List.finRange 5).foldl (fun (s : State) (g : Fin 5) =>
      s.scanGroup s.now g (codesOf g codes) ((bad.filter (fun b => b.1 == g)).map (·.2)) true) s
    { s.alert R.THM_ALERT 7 with thm := { s.thm with sampleReq := false } }
  else s)

/-! ### Re-arm (R129, R130, R431) -/

/-- A code written to THM_REARM at its boundary (R129, R130); the spec states no location code for a THERMAL_REARM record, so it
is free (assumption log 7). A write of 0x0D6E while no trip is latched re-arms nothing; the model refuses it with
THM_ALERT.rearm_refused even where host_ack still reads 1 and every channel is cool, which the spec leaves open (DESIGN CHOICE,
assumption log 49). -/
def State.rearm (s : State) (code : Nat) : State :=
  if code ≠ 0x0D6E then s
  else if s.bit R.THM_STATUS 4 && s.bit R.THM_STATUS 5 && s.rearmReady then
    let s := (s.putBit R.THM_STATUS 4 false).putBit R.THM_TRIP_CAUSE 31 false
    let s : State := { s with thm := { s.thm with steps := .replicate 4 0 } }
    let s := (List.finRange 4).foldl (fun (s : State) (d : Die) => s.sendThrottle d) s
    let (loc, s) := s.freeLoc
    ((s.logEvent kRearm loc []).alert R.THM_ALERT 10).showThermal.judgeForced
  else s.alert R.THM_ALERT 9

/-- THERMAL_REARM (R129, R130): the boundary that applies the write, so only while boundaries apply writes. -/
def execThermalRearm (code : BitVec 16) (s : State) : Host.Outcome State Fault Refusal :=
  .next (if s.prilRuns then s.rearm code.toNat else s)

/-- A host write to PF_THM_ACK (R129, R431): ignored while no trip is latched. -/
def State.hostAck (s : State) (code : Nat) : State :=
  if code = 0x0ACE ∧ s.bit R.THM_STATUS 4 then { s with thm := { s.thm with ackPending := true } } else s

/-- HOST_THERMAL_ACK (R431): the bit sets at the next boundary. -/
def execHostThermalAck (code : BitVec 16) (s : State) : Host.Outcome State Fault Refusal :=
  .next (if s.reachable .pf then s.hostAck code.toNat else s.portUr .pf)

/-- The acknowledgement at its boundary. -/
def State.applyAck (s : State) : State :=
  if s.thm.ackPending then
    { s.putBit R.THM_STATUS 5 (s.bit R.THM_STATUS 4) with thm := { s.thm with ackPending := false } }
  else s

/-! ### Thresholds (R124) -/

/-- The ranges and orders of R124 hold of throttle, trip and rate words. -/
def thresholdsOk (throttle trip ror : Word) : Bool :=
  let j := field throttle 9 0
  let t := field throttle 25 16
  let J := field trip 9 0
  let T := field trip 25 16
  decide (480 ≤ j ∧ j ≤ 560) && decide (360 ≤ t ∧ t ≤ 500) && decide (540 ≤ J ∧ J ≤ 620) && decide (400 ≤ T ∧ T ≤ 540)
    && decide (5 ≤ field ror 7 0 ∧ field ror 7 0 ≤ 30) && decide (20 ≤ field ror 15 8 ∧ field ror 15 8 ≤ 80)
    && decide (j + 20 ≤ J) && decide (t + 20 ≤ T) && decide (field ror 7 0 < field ror 15 8)

/-- THM_THROTTLE, THM_TRIP or THM_ROR written at its boundary (R124). -/
def State.writeThreshold (s : State) (a : Nat) (val : Word) : State :=
  let v := if a = R.THM_ROR then val &&& 0xFFFF#32 else val &&& 0x3FF03FF#32
  let pick (b : Nat) : Word := if a = b then v else s.reg b
  if thresholdsOk (pick R.THM_THROTTLE) (pick R.THM_TRIP) (pick R.THM_ROR) then (s.setReg a v).putBit R.THM_STATUS 6 (s.setReg a v).rearmReady
  else s.alert R.THM_ALERT 8

/-- THM_CH_DATA: the selected channel (R136). -/
def State.chData (s : State) : Word :=
  let c := s.fld R.THM_CH_SEL 8 0
  if 264 < c then 0
  else
    let x := s.chan c
    let g := if c < 256 then c / 64 else 4
    let r := roundAway (x.rateNum * 400000) x.rateDen
    let r := if r < -32 then -32 else if 31 < r then 31 else r
    BitVec.ofNat 32 (x.raw + x.eff * 1024 + b2n (x.read && !codeValid x.raw) * 2 ^ 20 + b2n x.subst * 2 ^ 21
      + b2n (decide (c < 256) && s.chanLineFault c) * 2 ^ 22 + b2n x.fault * 2 ^ 23 + (s.thm.groups[g]?.getD Group.reset).mode * 2 ^ 24
      + codeOf 6 r * 2 ^ 26)

end Sys2Proof.Machine
end

