-- ==== Sys2Proof/Machine/Safe.lean ====
section
/-!
DEFINITION. The safety concept (16_safety): causes and levels, their judgement at a boundary, SAFETY records, CLEAR, KICK and
MARK, level-3 causes, the self-tests, and uncorrectable errors of the Prilliner's SRAM.
-/
namespace Sys2Proof.Machine

open Sys2Proof

/-! ### Levels (R392) -/

/-- The level of a cause by its bit; adopted (bit 12) has none of its own. -/
def causeLevel (i : Nat) : Nat :=
  if i = 3 ∨ i = 4 ∨ i = 5 then 3
  else if i = 0 ∨ i = 1 ∨ i = 2 ∨ i = 6 ∨ i = 7 then 2
  else if i = 12 ∨ 15 ≤ i then 0 else 1

/-- The sticky causes (R392): bits 3-7, 9, 10, 14. -/
abbrev stickyMask : Nat := 0x46F8

/-- The highest level among the causes of a mask. -/
def ownLevel (causes : Nat) : Nat := (List.range 15).foldl (fun m i => if causes.testBit i then max m (causeLevel i) else m) 0

/-- The cause that triggered an event: the highest level, ties to the lowest bit (R394); `peer` is the level of bit 12. -/
def triggerOf (causes peer : Nat) : Nat :=
  let lvl (i : Nat) := if i = 12 then peer else causeLevel i
  match (List.range 15).filter causes.testBit with
  | [] => 0xFF
  | i :: is => is.foldl (fun b c => if lvl b < lvl c then c else b) i

/-- The conditions of the non-sticky causes other than the peer's (R392, R400). -/
def State.causeConditions (s : State) : Nat :=
  let t := s.fld R.SAF_WDT 15 8
  b2n (s.bit R.THM_STATUS 4) + 2 * b2n (s.bit R.SUP_STATUS 1) + 4 * b2n (s.bit R.HV_FAULT 15)
    + 2 ^ 8 * b2n (decide (s.fld R.THM_STATUS 11 8 ≠ 0) || decide (s.fld R.THM_FAULT 8 0 ≠ 0))
    + 2 ^ 11 * b2n (decide (s.fld R.PAIR_STATE 2 0 = 4))
    + 2 ^ 13 * b2n (decide (t ≠ 0) && decide (t ≤ s.saf.heartbeat))

/-- The adopted level (R379, R397): the peer's own level by its last valid frame, while PAIRED, DIVERGED or PAIR_LOST. -/
def State.adoptedLevel (s : State) : Nat :=
  if s.accepted ∨ s.fld R.PAIR_STATE 2 0 = 4 then
    match s.pair.last with
    | some f => f.safety % 4
    | none => 0
  else 0

/-! ### SAFETY records (R394, R408) -/

/-- Events of a SAFETY record. -/
abbrev evEscalate : Nat := 1
abbrev evClear : Nat := 2
abbrev evRestart : Nat := 3
abbrev evMark : Nat := 4
abbrev evRaiseFail : Nat := 5

/-- The location code of the last sensor classification (R394). -/
def State.sensorLoc (s : State) : Word :=
  let c := s.fld R.THM_FAULT 11 10
  let d := s.fld R.THM_FAULT 13 12
  let n := s.fld R.THM_FAULT 16 14
  if !s.bit R.THM_FAULT 9 then s.locPril
  else if c = 0 then s.loc 0 d 0xA (8 * n)
  else if c = 1 then s.loc 0 d 0xA n
  else s.chanLoc (s.fld R.THM_FAULT 25 17)

/-- The location code that the owner of a triggering cause reported (R394). -/
def State.causeLoc (s : State) (i : Nat) : Word :=
  if i = 0 then s.chanLoc (s.fld R.THM_TRIP_CAUSE 8 0)
  else if i = 1 then s.loc 3 0 0 0
  else if i = 2 then s.railLoc (s.fld R.HV_FAULT 2 0)
  else if i = 8 then s.sensorLoc
  else if i = 9 then
    match s.saf.locs.find? (fun p => p.1 == 9) with
    | some p => p.2
    | none => s.locPril
  else s.locPril

/-- A SAFETY record. -/
def State.safetyRecord (s : State) (event new old trigger extra : Nat) (loc : Word) : State :=
  s.logEvent kSafety loc (leBytes 1 event ++ leBytes 1 new ++ leBytes 1 old ++ leBytes 1 s.adoptedLevel
    ++ leBytes 2 (s.fld R.SAF_CAUSE 14 0) ++ leBytes 1 trigger ++ leBytes 1 0 ++ leBytes 4 extra)

/-- The records of the failed raises reported since the last judgement (R394, R443): the first stands for a rise. -/
def State.raiseRecords (s : State) (new old : Nat) : State :=
  let fails := s.saf.raiseFails.zipIdx
  let s : State := { s with saf := { s.saf with raiseFails := [] } }
  fails.foldl (fun (s : State) p => s.safetyRecord evRaiseFail new (if p.2 = 0 then old else new) 9 0 p.1) s

/-! ### The judgement at a boundary (R392-R394, R397, R398) -/

/-- An adopted level of 3 drives every die to Midnight and holds it; the hold ends when the level falls (R398). -/
def State.holdAdopted (s : State) (adopted : Nat) : State :=
  if adopted = 3 then
    if s.pwr.adoptHold then s
    else { s with pwr := { s.pwr with adoptHold := true } }.diesOff.forceMidnight
  else if s.pwr.adoptHold then { s with pwr := { s.pwr with adoptHold := false } }.judgeForced
  else s

/-- SAF_CAUSE and SAF_STATE are judged: causes that lapsed clear, rises and falls of the state are alerted and recorded. -/
def State.judgeSafety (s : State) : State :=
  let base := (s.fld R.SAF_CAUSE 14 0) % 2 ^ 15 &&& stickyMask ||| s.causeConditions
  let own := ownLevel base
  let adopted := s.adoptedLevel
  let causes := base + 2 ^ 12 * b2n (decide (own < adopted))
  let state := max own adopted
  let old := s.fld R.SAF_STATE 1 0
  let newly := causes - (causes &&& s.saf.lastCauses)
  let s := s.setReg R.SAF_CAUSE (BitVec.ofNat 32 causes)
  let s := s.setReg R.SAF_STATE (BitVec.ofNat 32 (state + 4 * own + 16 * adopted))
  let s : State := { s with saf := { s.saf with lastCauses := causes } }
  let s := s.alertIf (newly.testBit 12) R.PAIR_ALERT 6
  let s := s.alertIf (newly.testBit 13) R.SAF_ALERT 4
  let failed := !s.saf.raiseFails.isEmpty
  let s := s.raiseRecords state old
  let s :=
    if old < state then
      let t := triggerOf (if newly = 0 then causes else newly) adopted
      let s := if failed then s else s.safetyRecord evEscalate state old t 0 (s.causeLoc t)
      s.urgent R.SAF_ALERT 0
    else if state < old then
      (s.safetyRecord evClear state old 0xFF 0 s.locPril).alert R.SAF_ALERT 1
    else s
  let s : State := { s with saf := { s.saf with locs := [] } }
  let s := if s.fld R.MG_STATE 2 0 = 3 ∧ own < 3 then s.setFld R.MG_STATE 2 0 2 else s
  (s.holdAdopted adopted).judgeForced

/-- The controller heartbeat at a boundary (R400). -/
def State.countHeartbeat (s : State) : State :=
  let t := s.fld R.SAF_WDT 15 8
  let n := if t = 0 ∨ t ≠ s.saf.ctlInForce ∨ s.saf.kicked then 0 else s.saf.heartbeat + 1
  { s with saf := { s.saf with heartbeat := n, kicked := false, ctlInForce := t } }

/-- CONTROLLER_SILENT (R400): ctl_timeout boundaries have passed without a KICK. -/
def execControllerSilent (s : State) : Host.Outcome State Fault Refusal :=
  .next (if s.prilRuns ∧ s.causeConditions.testBit 13 then s.judgeSafety else s)

/-- CLEAR at its boundary (R393). -/
def State.clearCauses (s : State) : State :=
  let c := s.fld R.SAF_CAUSE 14 0
  let stay (i : Nat) (ok : Bool) : Nat := if c.testBit i && !ok then 2 ^ i else 0
  let left := stay 3 (s.bit R.SAF_DIAG 0) + stay 5 (s.bit R.SAF_DIAG 2) + stay 6 (s.bit R.SAF_DIAG 1)
    + stay 7 (decide (s.fld R.SAF_DIAG 10 7 = 0))
  let s := s.setFld R.SAF_CAUSE 14 0 ((c - (c &&& stickyMask)) + left)
  let s : State := if left &&& 0x38 = 0 then { s with tm := { s.tm with keepSaf := none } } else s
  s.alertIf (decide (left ≠ 0)) R.SAF_ALERT 5

/-- CLEAR (R393): the causes clear and the state is judged at the same boundary. -/
def execClear (s : State) : Host.Outcome State Fault Refusal := .next (if s.prilRuns then s.clearCauses.judgeSafety else s)

/-- KICK at its boundary (R400). -/
def State.kick (s : State) : State := { s with saf := { s.saf with heartbeat := 0, kicked := true } }

/-- KICK (R400): the count starts afresh and the cause clears. -/
def execKick (s : State) : Host.Outcome State Fault Refusal := .next (if s.prilRuns then s.kick.judgeSafety else s)

/-- MARK at its boundary (R394, R408). -/
def State.markSafety (s : State) : State :=
  let n := s.fld R.SAF_STATE 1 0
  s.safetyRecord evMark n n 0xFF 0 s.locPril

/-- MARK. -/
def execMark (s : State) : Host.Outcome State Fault Refusal := .next (if s.prilRuns then s.markSafety else s)

/-- SAF_CMD written at its boundary. -/
def State.safCmd (s : State) (code : Nat) : State :=
  if code = 0x5A01 then s.clearCauses else if code = 0x5A02 then s.kick else if code = 0x5A03 then s.markSafety else s

/-- SAF_WDT written at its boundary (R409). -/
def State.writeWdt (s : State) (val : Word) : State :=
  if 2 ≤ field val 7 0 then s.setReg R.SAF_WDT (val &&& 0xFFFF#32) else s

/-! ### Level-3 causes (R395, R425) -/

/-- A level-3 cause: the safety logic acts at once (R395). The management cores are held in reset until SAFE_RESTART; a record being
written is torn (R135), and records not begun are not written. -/
def State.safeCause (s : State) (i : Nat) : State :=
  let s := if s.saf.restart = 0 then s.tearRecord else s
  let s : State := { s with
    saf := { s.saf with restart := s.saf.restart ||| 2 ^ i },
    pins := { s.pins with alertN := false, forcedLow := true },
    pnl := { s.pnl with low := true, drive := [], idle := none },
    hv := { s.hv with disabled := true },
    tm := { s.tm with pend := [] } }
  let s := s.putBit R.ALERT_SRC 8 true
  s.diesOff.pfEvent 2

/-- A level-3 cause can be met: the Prilliner has started. -/
def State.coresRun (s : State) : Bool := !s.pwr.stopped && decide (s.fld R.MG_STATE 2 0 ≠ 0)

/-- LOCKSTEP_MISMATCH (R395). -/
def execLockstepMismatch (s : State) : Host.Outcome State Fault Refusal := .next (if s.coresRun then s.safeCause 3 else s)

/-- WATCHDOG_EXPIRY (R399): `missed` consecutive boundaries were incomplete. -/
def execWatchdogExpiry (missed : Nat) (s : State) : Host.Outcome State Fault Refusal :=
  .next (if s.coresRun ∧ s.fld R.SAF_WDT 7 0 ≤ missed then
    { s with saf := { s.saf with missed := missed } }.safeCause 4 else s)

/-- CLOCK_FAULT (R401). -/
def execClockFault (s : State) : Host.Outcome State Fault Refusal :=
  .next (if s.coresRun then (s.putBit R.SAF_DIAG 2 false).safeCause 5 else s)

/-! ### Self-tests and SRAM errors (R402, R405) -/

/-- A failed monitor reads its fault condition (R402). -/
def State.failMonitor (s : State) (m : MonitorId) : State :=
  match m with
  | .thermal _ => s
  | .sag => if s.sup.sagOn then s else s.supplyReset 1
  | .overvoltage => if s.sup.ovOn then s else s.supplyReset 2
  | .rail k => if s.railsPowered then s.railFault k.val 3 0 else s

/-- The Prilliner has power, is not in Small hours and is not held for a restart. -/
def State.coresAlive (s : State) : Bool := !s.pwr.stopped && decide (s.saf.restart = 0)

/-- MONITOR_SELF_TEST (R402, R434): also between the start of the firmware and READY. -/
def execMonitorSelfTest (failed : List MonitorId) (s : State) : Host.Outcome State Fault Refusal :=
  .next (if s.prilRuns || (s.img.booted && s.coresAlive) then
    let ok := failed.isEmpty
    let s := (s.bumpWrap R.SAF_DIAG 31 16).putBit R.SAF_DIAG 1 ok
    let s : State := { s with saf := { s.saf with failedMonitors := failed } }
    let s := if ok then s else (s.putBit R.SAF_CAUSE 6 true).alert R.SAF_ALERT 2
    failed.foldl (fun (s : State) m => s.failMonitor m) s
  else s)

/-- A pixel word becomes balance-unknown (R405). -/
def State.spoilPixel (s : State) (k : Nat) : State :=
  let w := s.pixel k
  let s' := s.setPixel k (setField w 31 28 8)
  s'.alertIf (!pxUnknown w && s.onPanel k) R.PNL_ALERT 5

/-- MGMT_SRAM_UE (R404, R405): an uncorrectable error in 8-byte unit `unit` of a region of the Prilliner's SRAM. -/
def execMgmtSramUe (region : SramRegion) (unit : Nat) (s : State) : Host.Outcome State Fault Refusal :=
  .next (if s.coresRun then
    let s := ((s.bumpSat R.SAF_ECC 31 24 1).putBit R.SAF_CAUSE 10 true).alert R.SAF_ALERT 3
    match region with
    | .pixel => (s.spoilPixel (2 * unit)).spoilPixel (2 * unit + 1)
    | .waveform => if unit * 8 < 8 * 0x100000 then s.putBit R.PNL_WF_STATUS (unit * 8 / 0x100000) false else s
    | .work =>
      if unit * 8 < 0x800000 ∧ !s.pnl.workBad.contains (unit * 8) then
        { s with pnl := { s.pnl with workBad := s.pnl.workBad ++ [unit * 8] } }
      else s
    | .cores => s.safeCause 3
  else s)

end Sys2Proof.Machine
end

