-- ==== Sys2Proof/Machine/Pair.lean ====
section
/-!
DEFINITION. Twin pairing (15_pairing): the pair frame, its checks, the handshake and the pair states, the agreement rules,
peer loss and claims, checkpoints, and the pair supervisor's part of a boundary.
-/
namespace Sys2Proof.Machine

open Sys2Proof

/-! ### State and errors -/

/-- PAIR_STATE.state. -/
def State.pairState (s : State) : Nat := s.fld R.PAIR_STATE 2 0
def State.setPairState (s : State) (n : Nat) : State := s.setFld R.PAIR_STATE 2 0 n
/-- PAIR_STATE.error. -/
def State.pairError (s : State) : Nat := s.fld R.PAIR_STATE 7 4
def State.setPairError (s : State) (n : Nat) : State := s.setFld R.PAIR_STATE 7 4 n

abbrev errRoleA : Nat := 1
abbrev errRoleB : Nat := 2
abbrev errLoopback : Nat := 3
abbrev errVersion : Nat := 4
abbrev errDisabled : Nat := 5
abbrev errClaimed : Nat := 6
abbrev errSoloB : Nat := 7
abbrev errUnpaired : Nat := 8

/-- CFG_DIGEST. -/
def State.digest (s : State) : DWord :=
  BitVec.ofNat 64 ((s.reg R.CFG_DIGEST_LO).toNat + (s.reg R.CFG_DIGEST_HI).toNat * 2 ^ 32)

/-- The serial in PAIR_PEER_SERIAL. -/
def State.peerSerial (s : State) : DWord :=
  BitVec.ofNat 64 ((s.reg R.PAIR_PEER_SERIAL_LO).toNat + (s.reg R.PAIR_PEER_SERIAL_HI).toNat * 2 ^ 32)

/-! ### The pair frame (R372, R373, R397) -/

/-- The fields of a frame's bytes (R372). -/
def readFrame (b : List Byte) : PeerFrame :=
  let fl := byteAt b 5
  { seq := leAt b 0 4, role := fl % 4, state := fl / 4 % 8, enable := fl.testBit 5, claimed := fl.testBit 6,
    sleepReq := fl.testBit 7, safety := byteAt b 6, power := byteAt b 7, serial := BitVec.ofNat 64 (leAt b 8 8),
    echo := BitVec.ofNat 64 (leAt b 16 8), versions := leAt b 24 6, features := leAt b 30 2,
    digest := BitVec.ofNat 64 (leAt b 32 8), dies := leAt b 54 2, ckpt := leAt b 56 2,
    ckptValid := (byteAt b 58).testBit 0, raster := BitVec.ofNat 64 (leAt b 44 8), lines := leAt b 52 2 }

/-- Kind of a frame: 1 BEAT, 2 SLEEP, 3 WAKE, 4 UNPAIR (R372). -/
def frameKind (b : List Byte) : Nat := byteAt b 4

/-- The reserved bits of a frame are zero (R372, R397). -/
def frameReserved (b : List Byte) : Bool :=
  decide (byteAt b 6 < 4) && decide (byteAt b 7 < 8) && decide (leAt b 54 2 < 4096) && decide (byteAt b 58 < 2)
    && decide (byteAt b 59 = 0)

/-- A frame is valid (R373). -/
def State.frameValid (s : State) (b : List Byte) : Bool :=
  decide (b.length = 64) && decide (leAt b 60 4 = (crc32 (b.take 60)).toNat)
    && decide (1 ≤ frameKind b ∧ frameKind b ≤ 4) && frameReserved b
    && (match s.pair.last with | some f => decide (f.seq ≠ leAt b 0 4) | none => true)

/-- The frame that the tray sends at a boundary (R372, R385, R397). -/
def State.frameBytes (s : State) (kind : Nat) : List Byte :=
  let claimed := s.bit R.PAIR_STATE 13
  let echo : DWord := if claimed then s.pair.claimSerial else match s.pair.last with | some f => f.serial | none => 0
  let flags := s.role + 4 * s.pairState + 32 * b2n (s.bit R.PAIR_CTRL 0) + 64 * b2n claimed
    + 128 * b2n (s.bit R.PAIR_CTRL 1 && s.bit R.PWR_CTRL 16)
  let body := leBytes 4 s.pair.txSeq ++ leBytes 1 kind ++ leBytes 1 flags ++ leBytes 1 (s.fld R.SAF_STATE 3 2)
    ++ leBytes 1 (s.fld R.PWR_STATE 18 16) ++ leBytes 8 Config.traySerial.toNat ++ leBytes 8 echo.toNat
    ++ leBytes 3 (s.reg R.ID_FW_VERSION).toNat ++ leBytes 3 (s.reg R.ID_UCODE_VERSION).toNat
    ++ leBytes 2 (s.fld R.PAIR_FEATURES 15 0) ++ leBytes 8 s.digest.toNat ++ leBytes 4 (s.reg R.CFG_EPOCH).toNat
    ++ leBytes 8 s.trayRaster.toNat ++ leBytes 2 s.lines
    ++ leBytes 2 ((s.shown 0) + 8 * (s.shown 1) + 64 * (s.shown 2) + 512 * (s.shown 3))
    ++ leBytes 2 (s.fld R.PAIR_CHECKPOINT 15 0) ++ leBytes 1 (b2n (s.bit R.PAIR_STATE 14)) ++ leBytes 1 0
  body ++ leBytes 4 (crc32 body).toNat

/-- The kind of the next frame (R381, R390). -/
def State.nextKind (s : State) : Nat :=
  if s.pairState = 0 ∧ s.pairError = errUnpaired then 4
  else if s.pair.sleepSent then 2 else if s.pair.sendWake then 3 else 1

/-- One pair frame is sent at a boundary while pairing is enabled (R371, R372). -/
def State.sendFrame (s : State) : State :=
  if s.bit R.PAIR_CTRL 0 && s.prilRuns then
    let s : State := { s with pair := { s.pair with txSeq := (s.pair.txSeq + 1) % 2 ^ 32 } }
    { s with pair := { s.pair with tx := s.pair.tx ++ [s.frameBytes s.nextKind] } }
  else s

/-! ### PAIR records (R390) -/

/-- A PAIR record; which part its location code names is not stated (assumption log 7). -/
def State.pairRecord (s : State) (event : Nat) : State :=
  let (loc, s) := s.freeLoc
  let us := satAt 0xFFFFFFFF ((s.now - s.pair.lastAt) * 5 / 2000)
  let (st, saf, ser) := match s.pair.last with
    | some f => (f.state, f.safety, f.serial)
    | none => (0, 0, s.peerSerial)
  s.logEvent kPair loc
    (leBytes 1 event ++ leBytes 1 s.pairError ++ leBytes 1 st ++ leBytes 1 saf ++ leBytes 8 ser.toNat
      ++ leBytes 2 (s.fld R.PAIR_CHECKPOINT 15 0) ++ leBytes 2 (s.fld R.PAIR_CHECKPOINT 31 16) ++ leBytes 4 us)

/-! ### Time agreement (R378) -/

/-- The tray's raster time minus the peer's, estimated as its stamp plus 8.0 µs in the tray's own line period, rounded to a
raster unit. -/
def State.aheadOf (s : State) (f : PeerFrame) : Int :=
  rasterDiff (rasterAdd f.raster ((8192000 * 4096 + s.linePer / 2) / s.linePer) s.lines) s.trayRaster s.lines

/-- Pair slewing becomes `mode`, with the current line's fraction kept. -/
def State.setPairSlew (s : State) (mode left : Nat) : State :=
  let p := s.linePer
  let ends := decide (mode = 0) && decide (s.ras.pairSlew ≠ 0)
  let s := s.modRas (fun r => { r with pairSlew := mode, pairLeft := left, due := if mode = 0 then r.due else none })
  let s := if s.linePer = p then s else s.rebase (fineOfTick s.now) p s.linePer
  if ends then s.rephase else s

/-- The tray jumps forward by u raster units at its next line pulse. -/
def State.planJump (s : State) (u : Nat) : State := (s.setPairSlew 0 0).modRas (fun r => { r with pairJump := some u })

/-- Time agreement with one frame of an accepted peer; `entry` at the entry from PAIRING (R378). `ahead` is the tray's lead as of the
frame's arrival and `moved` the tray's corrections until then; what has been corrected since is taken into account. -/
def State.agreeTime (s : State) (f : PeerFrame) (ahead moved : Int) (entry : Bool) : State :=
  let n := s.lines
  if f.lines ≠ n then
    let s := s.alertIf (!s.bit R.PAIR_STATE 12) R.PAIR_ALERT 5
    (s.putBit R.PAIR_STATE 12 true).setPairSlew 0 0
  else
    let s := s.putBit R.PAIR_STATE 12 false
    let now := ahead * n + (s.ras.pairMoved - moved)
    let ahead := now / n
    let u := ahead.natAbs
    let behind := decide (ahead < 0)
    if entry then (if behind ∧ 8192 < u then s.planJump u else s)
    else if 4096 * n < u then (if behind then s.planJump u else s.setPairSlew 0 0)
    else if s.role ≠ 2 then s
    else if 8192 < u then s.setPairSlew (if behind then 2 else 1) now.natAbs
    else if s.ras.pairSlew = 0 then s
    else if now.natAbs ≤ 64 * n then s.setPairSlew 0 0
    else s.setPairSlew (if behind then 2 else 1) now.natAbs

/-! ### The pair states (R374, R375, R377, R382, R390) -/

/-- The tray leaves an accepted pair, or stays out of one: the fence is closed and slewing ends (R383). -/
def State.outOfPair (s : State) (n : Nat) : State :=
  let s := (s.setPairState n).setPairSlew 0 0
  let s := s.modRas (fun r => { r with pairJump := none })
  { s with pair := { s.pair with fence := true, newLoss := false, digestDiff := 0, digestEqual := false,
                                  sleepSent := false, peerSleep := false } }

/-- The check of R374 that a frame fails first. -/
def State.handshakeError (s : State) (f : PeerFrame) : Option Nat :=
  if f.serial = Config.traySerial then some errLoopback
  else if !f.enable then some errDisabled
  else if f.role = 1 ∧ s.role = 1 then some errRoleA
  else if f.role = 2 ∧ s.role = 2 then some errRoleB
  else if f.versions / 2 ^ 16 % 256 ≠ s.fld R.ID_FW_VERSION 23 16
      ∨ f.versions / 2 ^ 40 % 256 ≠ s.fld R.ID_UCODE_VERSION 23 16 then some errVersion
  else if f.claimed ∧ f.echo = Config.traySerial then some errClaimed
  else none

/-- The tray goes SOLO with error e and pairs again only after a RETRY or a reset (R374, R390; assumption log 71). -/
def State.bar (s : State) (e : Nat) : State :=
  let s := (s.outOfPair 0).setPairError e
  { s with pair := { s.pair with barred := true } }

/-- A refusal (R374). -/
def State.refusePeer (s : State) (e : Nat) : State := ((s.bar e).alert R.PAIR_ALERT 3).pairRecord 6

/-- PAIR_PEER_VERSION and PAIR_PEER_DIGEST of a frame (R375). -/
def State.recordPeer (s : State) (f : PeerFrame) : State :=
  let v (k : Nat) := f.versions / 256 ^ k % 256
  let s := s.setReg R.PAIR_PEER_VERSION (BitVec.ofNat 32 (v 1 + 256 * v 2 + 65536 * v 4 + 2 ^ 24 * v 5))
  (s.setReg R.PAIR_PEER_DIGEST_LO (BitVec.ofNat 32 f.digest.toNat)).setReg R.PAIR_PEER_DIGEST_HI
    (BitVec.ofNat 32 (f.digest.toNat / 2 ^ 32))

/-- The tray enters DIVERGED (R377). -/
def State.diverge (s : State) : State :=
  let s : State := { s with pair := { s.pair with fence := true, digestDiff := 0, digestEqual := false } }
  ((s.setPairState 3).alert R.PAIR_ALERT 2).pairRecord 2

/-- The tray enters PAIRED with the fence open. -/
def State.openPair (s : State) : State :=
  { s.setPairState 2 with pair := { s.pair with fence := false, digestDiff := 0, digestEqual := false } }

/-- The peer of a frame is accepted (R375, R376, R377, R378, R380). -/
def State.acceptPeer (s : State) (f : PeerFrame) (ahead moved : Int) : State :=
  let s := (s.setReg R.PAIR_PEER_SERIAL_LO (BitVec.ofNat 32 f.serial.toNat)).setReg R.PAIR_PEER_SERIAL_HI
    (BitVec.ofNat 32 (f.serial.toNat / 2 ^ 32))
  let s := (s.recordPeer f).setFld R.PAIR_FEATURES 31 16 (s.fld R.PAIR_FEATURES 15 0 &&& f.features)
  let s := s.openPair
  let s := (s.alert R.PAIR_ALERT 0).pairRecord 1
  let s := if f.digest = s.digest then s else s.diverge
  let s := (List.finRange 4).foldl (fun (s : State) (d : Die) => if s.portAwake d then s.setPort d true false else s) s
  s.agreeTime f ahead moved true

/-- UNPAIR, written or received (R390). -/
def State.unpairNow (s : State) : State :=
  ((s.bar errUnpaired).alert R.PAIR_ALERT 12).pairRecord 7

/-- A checkpoint ID in a frame (R388); PAIR_CHECKPOINT.peer is frozen in PAIR_LOST (R382) and while a claim is held (R385). -/
def State.peerCheckpoint (s : State) (f : PeerFrame) : State :=
  if !f.ckptValid || decide (s.pairState = 4) || s.bit R.PAIR_STATE 13 then s
  else if s.bit R.PAIR_STATE 15 && decide (s.fld R.PAIR_CHECKPOINT 31 16 = f.ckpt) then s
  else ((s.setFld R.PAIR_CHECKPOINT 31 16 f.ckpt).putBit R.PAIR_STATE 15 true).alert R.PAIR_ALERT 8

/-- The register effects of a frame that arrived before this boundary. -/
def State.applyArrival (s : State) (a : Arrival) : State :=
  let f := a.frame
  let s := (s.bumpWrap R.PAIR_HB 15 0).setFld R.PAIR_STATE 10 8 f.state
  let st := s.pairState
  if a.kind = 4 ∧ s.bit R.PAIR_CTRL 0 then
    (if st = 0 ∧ s.pairError = errUnpaired then s else s.unpairNow)
  else
    let s := s.peerCheckpoint f
    if st = 1 ∧ a.state = 1 then
      if s.bit R.PAIR_STATE 13 ∧ f.serial = s.pair.claimSerial then s
      else match s.handshakeError f with
        | some e => s.refusePeer e
        | none => if f.echo = Config.traySerial then s.acceptPeer f a.ahead a.moved else s
    else if st = 4 ∧ a.state = 4 then s.setPairState 1
    else if (st = 2 ∨ st = 3) ∧ (a.state = 2 ∨ a.state = 3) then (s.recordPeer f).agreeTime f a.ahead a.moved false
    else s

/-- The loss declared since the last boundary (R382). -/
def State.enterLost (s : State) : State :=
  if s.pair.newLoss then ((s.outOfPair 4).alert R.PAIR_ALERT 1).pairRecord 3 else s

/-- The digest rule at a boundary (R377). -/
def State.judgeDigest (s : State) : State :=
  match s.pair.last with
  | none => s
  | some f =>
    if s.pairState = 2 then
      let n := if f.digest = s.digest then 0 else s.pair.digestDiff + 1
      let s : State := { s with pair := { s.pair with digestDiff := n } }
      if n ≠ 0 ∧ s.fld R.PAIR_CTRL 15 8 ≤ n then s.diverge else s
    else if s.pairState = 3 ∧ s.pair.digestEqual then s.openPair
    else s

/-- A tray in SOLO that is enabled, and has no error and no claim, is PAIRING (the pair states' table). -/
def State.startPairing (s : State) : State :=
  if s.bit R.PAIR_CTRL 0 && decide (s.pairState = 0) && decide (s.pairError = 0) && !s.bit R.PAIR_STATE 13
      && !s.pair.barred then s.setPairState 1
  else s

/-- A tray strapped B that runs with pairing disabled (R371). -/
def State.soloAsB (s : State) : State :=
  if !s.bit R.PAIR_CTRL 0 && decide (s.role = 2) && decide (s.pairError = 0) then s.setPairError errSoloB else s

/-- PAIR_HB: invalid frames and the longest gap, running ones included, in 100 µs units. -/
def State.countChannel (s : State) : State :=
  let s := s.bumpSat R.PAIR_HB 23 16 s.pair.badFrames
  let s := match s.pair.last with
    | some _ => s.setFld R.PAIR_HB 31 24
        (max (s.fld R.PAIR_HB 31 24) (max s.pair.gap (satAt 255 ((s.now - s.pair.lastAt) / 40000))))
    | none => s
  { s with pair := { s.pair with badFrames := 0, gap := 0, inbox := [] } }

/-- The pair supervisor at a boundary: the loss declared, the frames that arrived, the digest rule (R31, R372-R382). -/
def State.pairBoundary (s : State) : State :=
  let s := s.enterLost
  let s := s.pair.inbox.foldl (fun (s : State) a => s.applyArrival a) s
  let s := s.judgeDigest
  let s : State := { s with pair := { s.pair with digestEqual := false } }
  (s.countChannel.soloAsB.startPairing).putBit R.PAIR_STATE 11 (decide (s.ras.pairSlew ≠ 0))

/-! ### Reception (R372, R373, R380-R382) -/

/-- Peer loss is declared: the fence closes at once (R382, R383). -/
def State.declareLoss (s : State) : State := { s with pair := { s.pair with newLoss := true, fence := true } }

/-- A valid frame has arrived. Its register effects wait for the boundary; the loss rule, the ports and the echo do not. -/
def State.receive (s : State) (b : List Byte) : State :=
  let f := readFrame b
  let was := s.portAwake
  let a : Arrival := { frame := f, kind := frameKind b, state := s.pairState, ahead := s.aheadOf f, moved := s.ras.pairMoved }
  let gap := match s.pair.last with | some _ => satAt 255 ((s.now - s.pair.lastAt) / 40000) | none => 0
  let s : State := { s with pair := { s.pair with
      last := some f, lastAt := s.now, signalAt := some s.now, inbox := s.pair.inbox ++ [a], sendWake := false,
      gap := max s.pair.gap gap,
      digestEqual := s.pair.digestEqual || decide (f.digest = s.digest) } }
  let s := s.followPorts was
  if s.accepted ∧ f.state = 4 then s.declareLoss else s

/-- The pair channel runs: the Prilliner works (R380). -/
def State.hears (s : State) : Bool := s.prilRuns

/-- BEAT (R372-R379, R382). -/
def execBeat (t : Nat) (frame : List Byte) (s : State) : Host.Outcome State Fault Refusal :=
  let s := s.at t
  .next (if s.hears && s.frameValid frame && decide (frameKind frame = 1) then
      let s := s.receive frame
      { s with pair := { s.pair with peerSleep := false } }
    else s)

/-- SLEEP_FRAME (R381): the peer is ready to enter Small hours. -/
def execSleepFrame (t : Nat) (frame : List Byte) (s : State) : Host.Outcome State Fault Refusal :=
  let s := s.at t
  .next (if s.hears && s.frameValid frame && decide (frameKind frame = 2) then
      let s := s.receive frame
      { s with pair := { s.pair with peerSleep := true } }
    else s)

/-- WAKE_FRAME (R108, R111, R381): a wake source while PWR_WAKE_EN.pair is 1; from Small hours the tray wakes, and then takes the
frame as received. -/
def execWakeFrame (t : Nat) (frame : List Byte) (s : State) : Host.Outcome State Fault Refusal :=
  let s := s.at t
  .next (if s.frameValid frame && decide (frameKind frame = 3) && (s.hears || s.pwr.smallHours) then
      let s := if s.bit R.PWR_WAKE_EN 2 then s.wakeTray 3 else s
      if s.hears then
        let s := s.receive frame
        { s with pair := { s.pair with peerSleep := false } }
      else s
    else s)

/-- UNPAIR_FRAME (R390). -/
def execUnpairFrame (t : Nat) (frame : List Byte) (s : State) : Host.Outcome State Fault Refusal :=
  let s := s.at t
  .next (if s.hears && s.frameValid frame && decide (frameKind frame = 4) then s.receive frame else s)

/-- PAIR_FRAME_INVALID (R373): discarded and counted. -/
def execPairFrameInvalid (t : Nat) (frame : List Byte) (s : State) : Host.Outcome State Fault Refusal :=
  let s := s.at t
  .next (if s.hears && !s.frameValid frame then
      { s with pair := { s.pair with badFrames := s.pair.badFrames + 1, signalAt := some s.now } }
    else s)

/-- PEER_LOSS (R381, R382): 3.2 ms after the last valid frame, outside the pair-sleep allowance. -/
def execPeerLoss (t : Nat) (s : State) : Host.Outcome State Fault Refusal :=
  let s := s.at t
  let asleep := s.pair.sleepSent && s.pair.peerSleep
  .next (if s.prilRuns ∧ s.accepted ∧ !asleep ∧ s.pair.lastAt + usTicks 3200 ≤ s.now ∧ s.pair.graceUntil ≤ s.now
    then s.declareLoss else s)

/-! ### PAIR_CTRL and PAIR_CMD at their boundary (R371, R384, R385, R390) -/

/-- PAIR_CTRL written: a grace of 0 is ignored (R390). -/
def State.writePairCtrl (s : State) (val : Word) : State :=
  let was := s.bit R.PAIR_CTRL 0
  let g := if field val 15 8 = 0 then s.fld R.PAIR_CTRL 15 8 else field val 15 8
  let s := s.setReg R.PAIR_CTRL (setField (val &&& 0xF3#32) 15 8 g)
  if was && !bitAt val 0 then
    let s := s.outOfPair 0
    if s.role = 2 then s.setPairError errSoloB else s
  else if !was && bitAt val 0 && decide (s.pairState = 0) && decide (s.pairError = 0 ∨ s.pairError = errSoloB)
      && !s.bit R.PAIR_STATE 13 && !s.pair.barred then (s.setPairError 0).setPairState 1
  else s

/-- A data port or the channel has shown signalling within the last 4 mt (R384). -/
def State.signalling (s : State) : Bool :=
  (match s.pair.signalAt with | some t => decide (s.now < t + 4 * mtTicks) | none => false)
    || s.dies.any (fun x => x.linkUp[(3 : Fin 4)])

/-- CONFIRM_DOWN (R384). -/
def State.confirmDown (s : State) (check : Nat) : State :=
  if s.pairState ≠ 4 ∨ check ≠ s.fld R.PAIR_PEER_SERIAL_LO 15 0 ∨ s.signalling then s.alert R.PAIR_ALERT 11
  else
    let s := (s.outOfPair 0).putBit R.PAIR_STATE 13 true
    let s : State := { s with pair := { s.pair with claimSerial := s.peerSerial } }
    s.pairRecord 4

/-- CLEAR_CLAIM (R385). -/
def State.clearClaim (s : State) : State :=
  if s.bit R.PAIR_STATE 13 then
    let s := (s.putBit R.PAIR_STATE 13 false).pairRecord 5
    if s.pairState = 0 ∧ s.bit R.PAIR_CTRL 0 then s.setPairState 1 else s
  else s

/-- RETRY (R390). -/
def State.retryPair (s : State) : State :=
  let s := s.setPairError 0
  let s : State := { s with pair := { s.pair with barred := false } }
  if s.pairState = 0 ∧ s.bit R.PAIR_CTRL 0 then s.setPairState 1 else s.soloAsB

/-- PAIR_CMD written at its boundary (R390). -/
def State.pairCmd (s : State) (val : Word) : State :=
  let c := field val 15 0
  if c = 0x0A01 then s.confirmDown (field val 31 16)
  else if c = 0x0A02 then s.unpairNow
  else if c = 0x0A03 then s.clearClaim
  else if c = 0x0A04 then s.retryPair else s

/-- CONFIRM_DOWN. -/
def execConfirmDown (check : BitVec 16) (s : State) : Host.Outcome State Fault Refusal :=
  .next (if s.prilRuns then s.confirmDown check.toNat else s)

/-- UNPAIR (R390). -/
def execUnpair (s : State) : Host.Outcome State Fault Refusal := .next (if s.prilRuns then s.unpairNow else s)

/-- CLEAR_CLAIM (R385). -/
def execClearClaim (s : State) : Host.Outcome State Fault Refusal := .next (if s.prilRuns then s.clearClaim else s)

/-- RETRY (R390). -/
def execRetry (s : State) : Host.Outcome State Fault Refusal := .next (if s.prilRuns then s.retryPair else s)

/-! ### Checkpoints (R388) -/

/-- A tray checkpoint with this ID is complete: the latest report of every die in PAIR_CTRL.ckpt_dies is good and carries it. -/
def State.checkpointComplete (s : State) (id : Nat) : Bool :=
  (List.finRange 4).all (fun d : Die => !s.bit R.PAIR_CTRL (4 + d.val) || decide (s.pair.reports[d] = some (id, true)))

/-- The Prilliner takes a checkpoint report of die d. -/
def State.takeCheckpoint (s : State) (d : Die) (id : Nat) (good : Bool) : State :=
  let s : State := { s with pair := { s.pair with reports := s.pair.reports.set d (some (id, good)) } }
  let s := s.alertIf (!good) R.PAIR_ALERT 9
  if s.checkpointComplete id then (s.setFld R.PAIR_CHECKPOINT 15 0 id).putBit R.PAIR_STATE 14 true else s

/-- CHECKPOINT_REPORT (R388): the oldest checkpoint report of die d reaches the Prilliner. -/
def execCheckpointReport (d : Die) (s : State) : Host.Outcome State Fault Refusal :=
  .next (match takeFirst DieEvent.isCheckpoint s.dies[d].events with
    | some (.checkpoint id good, rest) =>
      if s.pwr.stopped then s
      else (s.modDie d (fun x => { x with events := rest })).takeCheckpoint d id good
    | _ => s)

end Sys2Proof.Machine
end

