-- ==== Sys2Proof/Machine/Boot.lean ====
section
/-!
DEFINITION. Bring-up (18_bringup): images and their verification, the reset kinds, the Tidemark scan with the latches it
restores, the start of the firmware and of the die microcode, and the restart into SAFE.
-/
namespace Sys2Proof.Machine

open Sys2Proof

/-! ### Images (R436-R439) -/

/-- Result codes of R438. -/
abbrev imgOk : Nat := 0x01
abbrev imgBadSig : Nat := 0x02
abbrev imgBadHeader : Nat := 0x03
abbrev imgBadTarget : Nat := 0x04
abbrev imgRollback : Nat := 0x05
abbrev imgAborted : Nat := 0x06
abbrev imgStoreErr : Nat := 0x07
abbrev imgShort : Nat := 0x08

/-- Word i of a bank. -/
def Bank.word (b : Bank) (i : Nat) : Nat := (SMap.get 0 b.words i).toNat

/-- Bytes of words i .. i + n - 1 in memory order (R12). -/
def Bank.bytes (b : Bank) (i : Nat) : Nat → List Byte
  | 0 => []
  | n + 1 => leBytes 4 (b.word i) ++ b.bytes (i + 1) n

/-- The 256-bit number in 8 words from word i, most significant byte first (R436). -/
def Bank.number (b : Bank) (i : Nat) : Nat := leNat (b.bytes i 8).reverse

/-- Largest payload of a target in words (R436). -/
def maxPayload (target : Nat) : Nat := if target = 0 then 1048576 else 2097152

/-- What a check of the image in a bank finds (R436-R438). -/
def Bank.check (b : Bank) (target : Nat) : Nat :=
  let n := b.word 3
  if b.count < 16 then imgShort
  else if b.word 0 ≠ 0xA6A50001 ∨ maxPayload target < n ∨ (List.range 12).any (fun i => b.word (4 + i) ≠ 0) then imgBadHeader
  else if b.word 1 ≠ target then imgBadTarget
  else if b.count < n + 32 then imgShort
  else if !ecdsaOk Config.romKeyX Config.romKeyY (sha256 (b.bytes 0 (16 + n))) (b.number (16 + n)) (b.number (24 + n)) then imgBadSig
  else if b.word 2 / 65536 % 256 < Config.rollbackMin then imgRollback
  else imgOk

/-- The active bank of a target, and the other one. -/
def Images.active (m : Images) (t : Nat) : Bank :=
  if t = 0 then (if m.fwActive then m.fw1 else m.fw0) else (if m.ucActive then m.uc1 else m.uc0)
def Images.inactive (m : Images) (t : Nat) : Bank :=
  if t = 0 then (if m.fwActive then m.fw0 else m.fw1) else (if m.ucActive then m.uc0 else m.uc1)

/-- The inactive bank of a target replaced. -/
def Images.setInactive (m : Images) (t : Nat) (b : Bank) : Images :=
  if t = 0 then (if m.fwActive then { m with fw0 := b } else { m with fw1 := b })
  else (if m.ucActive then { m with uc0 := b } else { m with uc1 := b })

/-- The other bank of a target becomes active (R437, R439). -/
def Images.swap (m : Images) (t : Nat) : Images :=
  if t = 0 then { m with fwActive := !m.fwActive } else { m with ucActive := !m.ucActive }

/-- MG_IMG_STATUS.state and .result. -/
def State.imgState (s : State) : Nat := s.fld R.MG_IMG_STATUS 2 0
def State.setImg (s : State) (state result : Nat) : State := s.setReg R.MG_IMG_STATUS (BitVec.ofNat 32 (state + 256 * result))

/-- OPEN (R438). -/
def State.openImage (s : State) (t : Nat) : State :=
  if s.imgState = 2 ∨ 1 < t then s
  else
    let s : State := { s with img := { s.img.setInactive t Bank.empty with target := t, written := 0 } }
    (s.setReg R.MG_IMG_ADDR 0).setFld R.MG_IMG_STATUS 2 0 1

/-- OPEN. -/
def execImgOpen (target : BitVec 2) (s : State) : Host.Outcome State Fault Refusal :=
  .next (if s.coresRun then s.openImage target.toNat else s)

/-- A word written to MG_IMG_DATA (R438); words beyond the largest image of the target are not stored. -/
def State.imageWord (s : State) (w : Word) : State :=
  if s.imgState ≠ 1 then s
  else
    let t := s.img.target
    let b := s.img.inactive t
    let a := s.fld R.MG_IMG_ADDR 23 0
    let b := if a < maxPayload t + 32 then { words := SMap.set 0 b.words a w, count := b.count + 1 } else b
    { s with img := { s.img.setInactive t b with written := s.img.written + 1 } }.setReg R.MG_IMG_ADDR
      (BitVec.ofNat 32 ((a + 1) % 2 ^ 24))

/-- IMAGE_DATA_WRITE (R438). -/
def execImageDataWrite (w : Word) (s : State) : Host.Outcome State Fault Refusal :=
  .next (if s.coresRun then s.imageWord w else s)

/-- VERIFY (R438). -/
def State.verifyImage (s : State) : State := if s.imgState = 1 then s.setFld R.MG_IMG_STATUS 2 0 2 else s

/-- VERIFY. -/
def execVerify (s : State) : Host.Outcome State Fault Refusal := .next (if s.coresRun then s.verifyImage else s)

/-- ABORT (R438). -/
def State.abortImage (s : State) : State :=
  if s.imgState = 1 ∨ s.imgState = 2 then
    { s with img := { s.img.setInactive s.img.target Bank.empty with written := 0 } }.setImg 0 imgAborted
  else s

/-- ABORT. -/
def execAbort (s : State) : Host.Outcome State Fault Refusal := .next (if s.coresRun then s.abortImage else s)

/-- MG_IMG_CTRL written; it is immediate (R78, R438). -/
def State.imgCtrl (s : State) (val : Word) : State :=
  let c := field val 15 0
  if c = 1 then s.openImage (field val 17 16)
  else if c = 2 then s.verifyImage else if c = 3 then s.abortImage else s

/-- A load that a reset interrupts leaves the inactive bank empty (R438). -/
def State.keptImages (s : State) : Images :=
  let m := if s.imgState = 1 ∨ s.imgState = 2 then s.img.setInactive s.img.target Bank.empty else s.img
  { m with written := 0, booted := false }

/-! ### Resets (R432-R434) -/

/-- The registers of the raster block after an MRST_N reset (R64). -/
def State.rasterRegs (s : State) (v : Vector Word 512) : Vector Word 512 :=
  let keep (v : Vector Word 512) (a : Nat) : Vector Word 512 := v.setIfInBounds a (s.reg a)
  let v := v.setIfInBounds R.RAS_STATUS (s.reg R.RAS_STATUS &&& 0x3F#32)
  keep (keep (keep (keep v R.RAS_LINES) R.RAS_LINE_PERIOD) R.RAS_HOLD) R.RAS_GEN

/-- Every die is in Midnight with nothing but its configuration store kept (R105, R415). -/
def DieSt.restarted (x : DieSt) : DieSt :=
  { DieSt.reset with msix := { x.msix with pending := [] }, cfg := x.cfg }

/-- What an MRST_N reset and a SAFE restart have in common (R432): the dies fall to Midnight, the rails are discharged, the pixels
in flight become balance-unknown, and what is kept is kept. The registers are left to the caller. An accepted SET_FRAME whose frame
boundary has not come is dropped, with the frame preset register that R64 resets (DESIGN CHOICE, assumption log 53); a SAFE restart
keeps it. -/
def State.restarted (s : State) : State :=
  let s := s.diesOff.mapPixels (fun _ w => if pxValid w then abandon w else if pxPend w then dropPend w else w)
  { State.reset with
    pending := s.pending, now := s.now, freeCtr := s.freeCtr, regs := s.regs,
    pins := { State.reset.pins with perstN := s.pins.perstN },
    ras := { s.ras with preset := none, pairJump := none },
    tm := { Tidemark.reset with cells := s.tm.cells },
    pnl := { Panel.reset with pixels := s.pnl.pixels, wave := s.pnl.wave },
    img := s.keptImages, dies := s.dies.map DieSt.restarted,
    pf := { PfSt.reset with msix := { s.pf.msix with pending := [] }, cfg := s.pf.cfg }, out := s.out, ext := s.ext }

/-- The MRST_N reset (R28, R64, R85, R432, R433). -/
def State.mrst (s : State) (pairSel : Bool) : State :=
  let recut := decide (s.rasMode ≠ 0) || s.pwr.smallHours
  let s := s.setPairSlew 0 0
  let wf := s.reg R.PNL_WF_STATUS &&& 0xFFFF#32
  let regs := (s.rasterRegs resetRegs).setIfInBounds R.PNL_WF_STATUS wf
  let s : State := { s.restarted with regs := regs }
  let s := (s.setReg R.MG_RESET_CAUSE 2).putBit R.ID_STRAPS 0 pairSel
  if recut then s.cutFrame 1000 freePeriod 0 else s

/-- MRST_N_RESET (R85): the filter declares a reset at 10.0 us and ignores a level shorter than 9.99 us; between the two it is
open (assumption log 7). -/
def execMrstNReset (lowNs : Nat) (pairSel : Bool) (s : State) : Host.Outcome State Fault Refusal :=
  let (n, s') := s.draw
  .next (if s.pwr.stopped && !s.pwr.smallHours then s
    else if lowNs < 9990 then s
    else if 10000 ≤ lowNs then s.mrst pairSel
    else if Config.freeBit n then s'.mrst pairSel else s')

/-- POWER_ON_RESET (R28, R54, R432-R434). -/
def execPowerOnReset (pairSel : Bool) (s : State) : Host.Outcome State Fault Refusal :=
  let r : State := { State.reset with
    pending := s.pending, now := s.now, freeCtr := s.freeCtr, pins := { State.reset.pins with perstN := s.pins.perstN },
    ras := { Raster.reset with lineAt := fineOfTick s.now }, tm := { Tidemark.reset with cells := s.tm.cells },
    img := s.keptImages, out := s.out, ext := s.ext }
  .next (r.putBit R.ID_STRAPS 0 pairSel)

/-! ### The Tidemark scan and the latches (R440, R441) -/

/-- LOG_HEAD, LOG_COUNT and the next seq from the store (R440). -/
def State.scanLog (s : State) : State :=
  let s := s.setFld R.LOG_COUNT 11 0 (s.tm.count tmRecords)
  match s.tm.latest (fun _ => true) tmRecords with
  | none => (s.setReg R.LOG_HEAD 0)
  | some (i, bs) =>
    let s : State := { s with tm := { s.tm with nextSeq := (recSeq bs + 1) % 2 ^ 32 } }
    (s.setFld R.LOG_HEAD 10 0 i).putBit R.LOG_HEAD 31 true

/-- The thermal trip restored (R441). -/
def State.restoreTrip (s : State) : State :=
  let last := s.tm.latest (fun b => decide (recKind b = kTrip)) tmRecords
  let rearm := s.tm.latest (fun b => decide (recKind b = kRearm)) tmRecords
  match last with
  | some (i, b) =>
    if laterThan last rearm then
      let p := recPayload b
      let s := (s.putBit R.THM_STATUS 4 true).putBit R.THM_STATUS 5 false
      let s := s.setReg R.THM_TRIP_CAUSE
        (BitVec.ofNat 32 (leAt p 0 2 % 512 + byteAt p 2 % 4 * 512 + leAt p 6 2 % 1024 * 65536 + 2 ^ 31))
      let s := ((s.putBit R.PWR_STATE 24 true).putBit R.SAF_CAUSE 0 true).urgentBoot R.THM_ALERT 0
      { s with tm := { s.tm with keepTrip := some i }, pwr := { s.pwr with stopLines := .replicate 4 true } }
    else s
  | none => s

/-- The HV latch restored (R441). -/
def State.restoreHv (s : State) : State :=
  let last := s.tm.latest (fun b => decide (recKind b = kHv) && hvLatches (recPayload b)) tmRecords
  let rearm := s.tm.latest (fun b => decide (recKind b = kHv) && decide (byteAt (recPayload b) 3 = 2)) tmRecords
  match last with
  | some (i, b) =>
    if laterThan last rearm then
      let p := recPayload b
      let s := s.setReg R.HV_FAULT (BitVec.ofNat 32
        (byteAt p 0 % 8 + byteAt p 1 % 8 * 16 + byteAt p 2 % 4 * 256 + byteAt p 3 % 2 * 1024 + 2 ^ 15))
      let s := ((s.setHvState 5).putBit R.SAF_CAUSE 2 true).urgentBoot R.HV_ALERT 0
      { s with tm := { s.tm with keepHv := some i } }
    else s
  | none => s

/-- The level-3 causes restored (R441). -/
def State.restoreSafety (s : State) : State :=
  match s.tm.latest (fun b => decide (recKind b = kSafety)) tmRecords with
  | some (i, b) =>
    let c := leAt (recPayload b) 4 2 / 8 % 8
    if c = 0 then s
    else
      let s := s.setFld R.SAF_CAUSE 5 3 (s.fld R.SAF_CAUSE 5 3 ||| c)
      { s with tm := { s.tm with keepSaf := some i } }
  | none => s

/-- The results of the lockstep test and the oscillator check at a start (R401, R404). -/
def State.startTests (s : State) (lockstepOk clockOk : Bool) : State :=
  let s := (s.putBit R.SAF_DIAG 0 lockstepOk).putBit R.SAF_DIAG 2 clockOk
  let s := if lockstepOk then s else s.putBit R.SAF_CAUSE 3 true
  let s := if clockOk then s else s.putBit R.SAF_CAUSE 5 true
  s.alertIf (!lockstepOk || !clockOk) R.SAF_ALERT 2

/-- The state that the causes of a start give: in force without a record, and alerted above NORMAL (R441). -/
def State.startState (s : State) : State :=
  let c := s.fld R.SAF_CAUSE 14 0
  let own := ownLevel c
  let s := s.setReg R.SAF_STATE (BitVec.ofNat 32 (own + 4 * own))
  let s : State := { s with saf := { s.saf with lastCauses := c } }
  let s := if own = 3 then
      { s.putBit R.PWR_STATE 24 true with pwr := { s.pwr with stopLines := .replicate 4 true } }
    else s
  if 0 < own then s.urgentBoot R.SAF_ALERT 0 else s

/-- The latches are restored from Tidemark (R440, R441). -/
def State.restoreLatches (s : State) : State := s.scanLog.restoreTrip.restoreHv.restoreSafety

/-! ### Starting (R404, R434, R435, R437) -/

/-- The firmware of the active bank starts; MG_STATE leaves BOOT at the next boundary (R434). -/
def State.startFirmware (s : State) : State :=
  let s := s.setReg R.ID_FW_VERSION (BitVec.ofNat 32 ((s.img.active 0).word 2 % 2 ^ 24))
  { s.restoreLatches.startState with img := { s.img with booted := true } }

/-- FIRMWARE_START (R404, R437, R440, R441). -/
def execFirmwareStart (lockstepOk clockOk : Bool) (s : State) : Host.Outcome State Fault Refusal :=
  .next (if s.fld R.MG_STATE 2 0 ≠ 0 ∨ s.pwr.stopped ∨ s.img.booted then s
    else
      let s := s.startTests lockstepOk clockOk
      let r := (s.img.active 0).check 0
      if r = imgOk then s.startFirmware
      else
        let s := s.setFld R.MG_IMG_STATUS 15 8 r
        if (s.img.inactive 0).check 0 = imgOk then { s with img := s.img.swap 0 }.startFirmware
        else (s.scanLog.setFld R.MG_STATE 2 0 1).alert R.ALERT_PORT 4)

/-- MG_STATE leaves BOOT at a boundary (R434). -/
def State.leaveBoot (s : State) : State :=
  if s.img.booted then
    let s : State := { s with img := { s.img with booted := false } }
    (s.setFld R.MG_STATE 2 0 (if s.fld R.SAF_STATE 3 2 = 3 then 3 else 2)).alert R.ALERT_PORT 4
  else s

/-- Die microcode that passed: held raises proceed at the next boundary (R435, R439). -/
def State.takeUcode (s : State) : State :=
  { s.setReg R.ID_UCODE_VERSION (BitVec.ofNat 32 ((s.img.active 1).word 2 % 2 ^ 24)) with pwr := { s.pwr with ucodeOk := true } }

/-- MICROCODE_VERIFIED (R435, R437). -/
def execMicrocodeVerified (s : State) : Host.Outcome State Fault Refusal :=
  .next (if !s.prilRuns ∨ s.pwr.ucodeOk then s
    else if (s.img.active 1).check 1 = imgOk then s.takeUcode
    else if (s.img.inactive 1).check 1 = imgOk then { s with img := s.img.swap 1 }.takeUcode
    else s)

/-- The end of a verification (R438, R439). Firmware that passes in RECOVERY starts through an MRST_N reset; microcode that passes
is taken at once only where none had passed, else its version shows after the next start. `pairSel` is the PAIR_SEL strap, which that
reset samples anew (R28, R432). -/
def State.imageVerified (s : State) (storeOk pairSel : Bool) : State :=
  let t := s.img.target
  let r := if storeOk then (s.img.inactive t).check t else imgStoreErr
  if r ≠ imgOk then (s.setImg 4 r).alert R.ALERT_PORT 3
  else
    let s : State := { s with img := s.img.swap t }
    let s := (s.setImg 3 imgOk).alert R.ALERT_PORT 3
    if t = 1 then (if s.pwr.ucodeOk then s else s.takeUcode)
    else if s.fld R.MG_STATE 2 0 = 1 then s.mrst pairSel else s

/-- IMAGE_VERIFIED. -/
def execImageVerified (v : VerifyEnd) (s : State) : Host.Outcome State Fault Refusal :=
  .next (if s.coresRun ∧ s.imgState = 2 then s.imageVerified v.storeOk v.pairSel else s)

/-! ### The restart into SAFE (R395, R396, R432, R433) -/

/-- A register of the map that holds RWL fields keeps them; the others take their reset value. -/
def State.safeReg (s : State) (r : RegSpec) : Word :=
  if r.digest || r.calib then (s.reg r.addr &&& BitVec.ofNat 32 r.rw) ||| (r.reset &&& ~~~ (BitVec.ofNat 32 r.rw)) else r.reset

/-- The registers after a SAFE restart (R432): RWL fields, the lock, the epoch and digest, SAF_CAUSE, PAIR_SEL, the raster
block; and those that show blocks which kept running (R395) or images that are not verified again. -/
def State.safeRegs (s : State) : Vector Word 512 :=
  let v := regMap.foldl (fun (v : Vector Word 512) r => v.setIfInBounds r.addr (s.safeReg r)) (Vector.replicate 512 0)
  let keep (v : Vector Word 512) (a : Nat) : Vector Word 512 := v.setIfInBounds a (s.reg a)
  let v := v.setIfInBounds R.CFG_STATUS (s.reg R.CFG_STATUS &&& 1#32)
  let v := v.setIfInBounds R.PNL_WF_STATUS (s.reg R.PNL_WF_STATUS &&& 0xFFFF#32)
  let v := [R.CFG_EPOCH, R.CFG_DIGEST_LO, R.CFG_DIGEST_HI, R.SAF_CAUSE, R.ID_STRAPS, R.ID_FW_VERSION, R.ID_UCODE_VERSION,
    R.SUP_STATUS, R.SUP_VBUS, R.SUP_IBUS, R.SUP_MIN_VBUS, R.THM_STATUS, R.THM_FAULT, R.THM_TRIP_CAUSE].foldl keep v
  ((List.range 15).map (fun i => R.RAS_CTRL + i)).foldl keep v

/-- The RESTART_SAFE record (R394, R396). Bytes 8 to 11 are given twice for a watchdog restart, so either value is possible
(assumption log 7). -/
def State.restartRecord (s : State) (old pixels missed restart : Nat) : State :=
  let trigger := if restart.testBit 3 then 3 else if restart.testBit 4 then 4 else 5
  let (n, s) := s.draw
  let extra := if trigger = 4 ∧ Config.freeBit n then missed else pixels
  s.safetyRecord evRestart 3 old trigger (satAt 0xFFFFFFFF extra) s.locPril

/-- SAFE_RESTART's effect. -/
def State.safeRestart (s : State) (lockstepOk clockOk : Bool) : State :=
  let restart := s.saf.restart
  let missed := s.saf.missed
  let old := s.fld R.SAF_STATE 1 0
  let pixels := s.inFlight
  let s := s.setPairSlew 0 0
  let regs := s.safeRegs
  let r := s.restarted
  let s : State := { r with
    regs := regs, sup := s.sup, thm := { s.thm with steps := .replicate 4 0, ackPending := false },
    hv := { Hv.reset with emodel := s.hv.emodel }, ras := { s.ras with pairJump := none },
    pwr := { Power.reset with ucodeOk := s.pwr.ucodeOk, stopLines := .replicate 4 true } }
  let s := (s.setFld R.SAF_CAUSE 14 0 (s.fld R.SAF_CAUSE 14 0 ||| restart)).setReg R.MG_RESET_CAUSE
    (BitVec.ofNat 32 (16 * b2n (restart.testBit 3) + 8 * b2n (restart.testBit 4)))
  let s := (s.startTests lockstepOk clockOk).restoreLatches
  let s := s.setFld R.SAF_CAUSE 14 0 (s.fld R.SAF_CAUSE 14 0 ||| restart)
  let c := s.fld R.SAF_CAUSE 14 0
  let s := (s.setReg R.SAF_STATE 0xF#32).setFld R.MG_STATE 2 0 3
  let s : State := { s with saf := { s.saf with lastCauses := c } }
  let s := (s.restartRecord old pixels missed restart).urgent R.SAF_ALERT 0
  let s := s.alertIf (restart.testBit 3 || restart.testBit 5) R.SAF_ALERT 2
  s.forceMidnight.showTray

/-- SAFE_RESTART (R396). -/
def execSafeRestart (lockstepOk clockOk : Bool) (s : State) : Host.Outcome State Fault Refusal :=
  .next (if s.saf.restart = 0 ∨ s.pwr.stopped then s else s.safeRestart lockstepOk clockOk)

end Sys2Proof.Machine
end

