-- ==== Sys2Proof/Machine/CopyOps.lean ====
section
/-!
DEFINITION. The COPY family: COPY, FILL, CONVERT and TRANSPOSE (R190, R191), with poison carried from source to destination (R151).
-/
namespace Sys2Proof.Machine

open Sys2Proof

/-! ### Bodies and step 4 -/

/-- perm[i] of a TRANSPOSE body. -/
def permAt (body : List Byte) (i : Nat) : Nat := byteAt body (4 + i)

/-- The bytes of a COPY-family body break no rule of their own (R190); what depends on a descriptor is judged at step 4. -/
def copyBodyOk (op : Nat) (body : List Byte) : Bool :=
  if op = 0x20 then decide (leAt body 4 44 = 0)
  else if op = 0x21 then decide (leAt body 0 2 = 0) && decide (leAt body 4 4 = 0) && decide (leAt body 17 31 = 0)
  else if op = 0x22 then decide (byteAt body 4 ≤ 1) && decide (byteAt body 5 ≤ 1) && decide (leAt body 6 42 = 0)
  else decide (leAt body 9 39 = 0)

/-- A TRANSPOSE permutation fits rank r (R190). -/
def permOk (body : List Byte) (r : Nat) : Bool :=
  (List.range r).all (fun i => decide (permAt body i < r)
    && (List.range r).all (fun j => decide (i = j) || decide (permAt body i ≠ permAt body j)))
  && (List.range 5).all (fun i => decide (i < r) || decide (permAt body i = i))

/-- Step 4 of the COPY family. Descriptors: FILL dst; the others src, dst. -/
def copyStatus (op : Nat) (body : List Byte) (ds : List Desc) : Nat :=
  let s := ds.getD 0 Desc.none
  let d := ds.getD 1 Desc.none
  if op = 0x21 then firstStatus [(decide (2 ^ formatBits s.format ≤ leAt body 8 8), stBadBody)]
  else if op = 0x20 then firstStatus [
    (decide (s.format ≠ d.format) || !d.hasDims s.shape, stShape),
    ((s.mx || d.mx) && !decide (s.mx = d.mx ∧ s.scaleDim = d.scaleDim), stShape)]
  else if op = 0x22 then firstStatus [
    (!d.hasDims s.shape, stShape),
    (decide (s.format = 0x0D ∨ s.format = 0x0E ∨ d.format = 0x0D ∨ d.format = 0x0E), stNotSupported)]
  else firstStatus [
    (!permOk body s.rank, stBadBody),
    (decide (s.format ≠ d.format ∨ s.rank ≠ d.rank), stShape),
    (!(List.range s.rank).all (fun i => decide (d.dims[i]? = s.dims[permAt body i]?)), stShape),
    ((s.mx || d.mx) && !decide (s.mx = d.mx ∧ permAt body d.scaleDim = s.scaleDim), stShape)]

/-! ### Poison in transfers (R151) -/

/-- Some byte of a run is poisoned. -/
def State.badRun (s : State) (v : Port3) (a n : Nat) : Bool := s.anyPoison v.fn v.tw a n

/-- A row of element codes with their poison marks, packed; a byte is bad where an element in it is. -/
def markedRow (a bits : Nat) (codes : List (Nat × Bool)) : Emit :=
  { addr := a, data := packCodes bits (codes.map (·.1)),
    bad := if bits < 8 then (pieces (8 / bits) codes).map (fun p => p.any (·.2))
           else codes.flatMap (fun c => List.replicate (bits / 8) c.2) }

/-- The tensor whose element ix has a code and a mark. -/
def Desc.emitMarked (d : Desc) (f : List Nat → Nat × Bool) : List Emit :=
  (List.range d.rows).map (fun n => markedRow (d.addr (0 :: d.rowIx n)) (formatBits d.format)
    ((List.range d.dims[0]).map (fun i => f (i :: d.rowIx n))))

/-- The first element index of each scale block. -/
def Desc.scaleHeads (d : Desc) : List (List Nat) :=
  let dims := ((List.finRange 5).filter (fun i => i.val < d.rank)).map d.scaleDimOf
  (List.range d.scaleCount).map (fun n => (unrank dims n).zipIdx.map (fun p => if p.2 = d.scaleDim then 32 * p.1 else p.1))

/-- The scales of a tensor, by the first element of each block. -/
def Desc.emitScales (d : Desc) (f : List Nat → Nat × Bool) : List Emit :=
  if d.mx then [markedRow d.scaleBase 8 (d.scaleHeads.map f)] else []

/-- An element's code and whether its bytes are poisoned. -/
def State.markedCode (s : State) (v : Port3) (d : Desc) (ix : List Nat) : Nat × Bool :=
  (s.elemCode v d ix, s.badRun v (d.addr ix) (max 1 (formatBits d.format / 8)))

/-- A scale byte and whether it is poisoned. -/
def State.markedScale (s : State) (v : Port3) (d : Desc) (ix : List Nat) : Nat × Bool :=
  (s.scaleCode v d ix, s.badRun v (d.scaleAddr ix) 1)

/-- An element's value with its scale, and whether what it comes from is poisoned. -/
def State.markedVal (s : State) (v : Port3) (d : Desc) (ix : List Nat) : Val × Bool :=
  (s.elemVal v d ix, (s.markedCode v d ix).2 || (d.mx && (s.markedScale v d ix).2))

/-! ### The work -/

/-- The indices of the MX block of d that holds ix (R259). -/
def Desc.blockOf (d : Desc) (ix : List Nat) : List (List Nat) :=
  let k := ix.getD d.scaleDim 0 / 32 * 32
  (List.range (min 32 ((d.dims[d.scaleDim]?.getD 0) - k))).map (fun j => ix.set d.scaleDim (k + j))

/-- The runs and bytes of a COPY-family command (R190, R191). -/
def State.copyWork (s : State) (v : Port3) (op : Nat) (l : Live) : Work :=
  let body := l.bytes.drop 16
  let a := l.descs.getD 0 Desc.none
  let d := l.descs.getD 1 Desc.none
  if op = 0x21 then
    { reads := [], emits := a.emitMarked (fun _ => (leAt body 8 8, false)) ++ a.emitScales (fun _ => (byteAt body 16, false)),
      result := 0 }
  else if op = 0x20 then
    { reads := a.spans, emits := d.emitMarked (s.markedCode v a) ++ d.emitScales (s.markedScale v a), result := 0 }
  else if op = 0x22 then
    let rnd := byteAt body 4
    let sat := byteAt body 5
    let block (ix : List Nat) : Nat × List Nat × Bool :=
      let vs := (d.blockOf ix).map (s.markedVal v a)
      let (sc, cs) := mxBlock d.format rnd sat (vs.map (·.1))
      (sc, cs, vs.any (·.2))
    if d.mx then
      { reads := a.spans,
        emits := d.emitMarked (fun ix => let (_, cs, bad) := block ix; (cs.getD (ix.getD d.scaleDim 0 % 32) 0, bad))
          ++ d.emitScales (fun ix => let (sc, _, bad) := block ix; (sc, bad)),
        result := 0 }
    else
      { reads := a.spans,
        emits := d.emitMarked (fun ix => let (x, bad) := s.markedVal v a ix; (convert d.format false rnd sat x, bad)),
        result := 0 }
  else
    -- dst index i is src index perm[i]
    let src (ix : List Nat) : List Nat := (List.range a.rank).map (fun k =>
      ix.getD (((List.range a.rank).find? (fun i => permAt body i = k)).getD 0) 0)
    { reads := a.spans, emits := d.emitMarked (fun ix => s.markedCode v a (src ix)) ++ d.emitScales (fun ix => s.markedScale v a (src ix)),
      result := 0 }

/-- A transfer's work is done: an address failure ends it; poisoned data is carried along, and the command then ends with MEM_UE
(R146, R151). -/
def State.transfer (s : State) (d : Die) (q : QIdx) (n : Nat) (w : Work) : State :=
  let v := viewOf (.die d) q
  let outs := emitSpans w.emits
  match s.writeFail v w.reads with
  | some f => s.failExec d q n f false w.emits
  | none => match s.writeFail v outs with
    | some f => s.failExec d q n f true w.emits
    | none =>
      let t := (s.emitAll v w.emits).openOverlaps v w.reads outs
      match s.poisonRead v w.reads with
      | some f =>
        let (loc, t) := t.raiseMem (.die d) v.tw (queueRequester (.die d) q) false f
        t.endExec d q n stMemUe loc
      | none => t.modQueue (.die d) q (fun x => x.modLive n (fun l => { l with result := w.result, undo := s.wroteSpans t v outs }))

/-- Weir starts the COPY-family command with opcode op on queue q of die d. -/
def State.runCopy (s : State) (d : Die) (q : QIdx) (op : Nat) : State :=
  match s.startable d q op with
  | none => s
  | some (n, l) =>
    let s := s.beginExec d q n
    let r := s.veil d q n
    { s with freeCtr := r.freeCtr }.transfer d q n (r.copyWork (viewOf (.die d) q) op l)

/-- COPY (R190). -/
def execCopy (d : Die) (q : QIdx) (s : State) : Host.Outcome State Fault Refusal := .next (s.runCopy d q 0x20)

/-- FILL (R190). -/
def execFill (d : Die) (q : QIdx) (s : State) : Host.Outcome State Fault Refusal := .next (s.runCopy d q 0x21)

/-- CONVERT (R191). -/
def execConvert (d : Die) (q : QIdx) (s : State) : Host.Outcome State Fault Refusal := .next (s.runCopy d q 0x22)

/-- TRANSPOSE (R190, R191). -/
def execTranspose (d : Die) (q : QIdx) (s : State) : Host.Outcome State Fault Refusal := .next (s.runCopy d q 0x23)

end Sys2Proof.Machine
end

