-- ==== Sys2Proof/Machine/Page.lean ====
section
/-!
DEFINITION. The PAGE opcodes (R317-R323), autonomous spill (R308), the fill path (R309) and PG_CTRL (R324). A page's move is one
transit here, so no entry is ever seen busy (assumption log 40).
-/
namespace Sys2Proof.Machine

open Sys2Proof

/-! ### Bodies (R317) -/

/-- Bytes from' up to, not including, to' of a body are zero. -/
def zeroBytes (b : List Byte) (from' to' : Nat) : Bool := decide (leAt b from' (to' - from') = 0)

/-- The bytes of a PAGE body break no rule of their own (R317). -/
def pageBodyOk (op : Nat) (b : List Byte) : Bool :=
  let z := zeroBytes b
  if op = 0x30 then
    z 19 48 && decide (byteAt b 18 ≤ 7) && decide (1 ≤ leAt b 12 4)
      && (if (byteAt b 18).testBit 2 then decide (leAt b 2 2 = 0xFFFF ∧ leAt b 4 2 = 0xFFFF) else decide (leAt b 6 2 = 0xFFFF))
  else if op = 0x31 then z 8 48
  else if op = 0x32 then z 2 4 && z 12 48
  else if op = 0x33 then
    z 8 48 && decide ((byteAt b 2, byteAt b 3) ∈ [(0, 1), (0, 2), (1, 2)]) && (decide (leAt b 4 4 ≠ 0) || decide (byteAt b 2 = 0))
  else if op = 0x34 then
    z 3 4 && z 30 48 && decide (byteAt b 2 ≤ 7) && decide (byteAt b 2 % 4 ≠ 3)
      && (if (byteAt b 2).testBit 2 then z 4 12 && (boxOf b).ok else z 12 30)
  else if op = 0x35 then
    let t := decodeElem 0x03 false (leAt b 2 2)
    z 5 12 && z 30 48 && decide (byteAt b 4 ≤ 1) && !t.nonFinite && !t.isNeg && !t.isZero && (boxOf b).ok
  else if op = 0x36 then z 2 4 && z 8 48
  else z 1 4 && z 8 48 && decide (byteAt b 0 ≤ 2)

/-- The sequences that a PAGE body names. -/
def pageSeqs (op : Nat) (b : List Byte) : List Nat :=
  if op = 0x37 then []
  else if op = 0x31 then [leAt b 0 2, leAt b 2 2]
  else if op = 0x33 ∧ leAt b 0 2 = 0xFFFF then []
  else [leAt b 0 2]

/-- The positions that a MAP writes: (token of the source, position) (R317, R318). -/
def mapPositions (q : Seq) (b : List Byte) (idx : List Nat) : List (Nat × Nat) :=
  let n := leAt b 12 4
  let start := if leAt b 8 4 = 0xFFFFFFFF then q.length else leAt b 8 4
  (List.range n).map (fun t => (t, if leAt b 16 2 = 0xFFFF then start + t else idx.getD t 0))

/-- The length of a sequence after a MAP. -/
def mapLength (q : Seq) (ps : List (Nat × Nat)) : Nat := ps.foldl (fun m p => max m (p.2 + 1)) q.length

/-- A list is strictly ascending. -/
def ascending : List Nat → Bool
  | a :: b :: rest => decide (a < b) && ascending (b :: rest)
  | _ => true

/-- Step 4 of a PAGE command once its sequences have been read (R317). Descriptors of MAP: k, v, lat, idx. -/
def pageStatus (op : Nat) (b : List Byte) (ds : List Desc) (seq : Nat → Seq) (idx : List Nat) : Nat :=
  let q := seq (leAt b 0 2)
  if op = 0x30 then
    let n := leAt b 12 4
    let latent := (byteAt b 18).testBit 2
    let k := ds.getD 0 Desc.none
    let v := ds.getD 1 Desc.none
    let lat := ds.getD 2 Desc.none
    let ix := ds.getD 3 Desc.none
    let hasIdx := decide (leAt b 16 2 ≠ 0xFFFF)
    let fits (d : Desc) : Bool := d.hasDims [q.dim, q.heads, n] && decide (d.format = if q.format = 1 then 0x04 else 0x02)
      && (if q.format = 1 then d.mx && decide (d.scaleDim = 0) else !d.mx)
    firstStatus [
      (if latent then decide (q.rank = 0) || !(lat.hasDims [q.latent, n] && decide (lat.format = 0x02)) else !(fits k && fits v), stShape),
      (hasIdx && !(ix.hasDims [n] && decide (ix.format = 0x0C)), stShape),
      (hasIdx && !(ascending idx && idx.all (fun p => decide (p < q.length))), stBadBody),
      (decide (q.maxPages * q.page < mapLength q (mapPositions q b idx)), stShape)]
  else if op = 0x31 then
    let t := seq (leAt b 2 2)
    firstStatus [
      (decide (t.length ≠ 0 ∨ t.order ≠ q.order ∨ t.format ≠ q.format ∨ t.heads ≠ q.heads ∨ t.dimCode ≠ q.dimCode ∨ t.rank ≠ q.rank), stShape),
      (!decide (1 ≤ leAt b 4 4 ∧ leAt b 4 4 ≤ q.pages), stBadBody),
      (decide (t.maxPages < leAt b 4 4), stShape)]
  else if op = 0x32 then firstStatus [(decide (q.pages < leAt b 4 4 + leAt b 8 4), stBadBody)]
  else if op = 0x36 then firstStatus [(!decide (0xC00000000000 ≤ q.shBase ∧ 0xC00000000000 ≤ q.shPt), stBadSeq)]
  else stOk

/-! ### Running a PAGE command -/

/-- A running PAGE command's context: its die, who its accesses are logged for, its body, descriptors and noted sequences. -/
structure PageCtx where
  d : Die
  who : Requester
  body : List Byte
  descs : List Desc
  seq : Nat → Seq
  idx : List Nat

def pageCtx (d : Die) (q : QIdx) (l : Live) : PageCtx :=
  { d := d, who := queueRequester (.die d) q, body := l.bytes.drop 16, descs := l.descs,
    seq := fun n => readSeq (l.note (0x1000 + n)), idx := codes4 (l.note 2) }

/-- A PAGE command enters step 5: it has moved nothing yet. -/
def State.beginPage (s : State) (d : Die) (q : QIdx) (i : Nat) : State :=
  (s.beginExec d q i).modDie d (fun x => { x with page := { x.page with moved := [] } })

/-- The result field of a PAGE command, from its two counts (R323). -/
def State.setCounts (s : State) (d : Die) (q : QIdx) (i n k : Nat) : State :=
  s.modQueue (.die d) q (fun x => x.modLive i (fun l => { l with result := satAt 65535 n + satAt 65535 k * 65536 }))

/-- Weir starts the PAGE command with opcode op on queue q of die d, and does its work: its counts are its result, and a failure ends
it (R323). -/
def State.runPage (s : State) (d : Die) (q : QIdx) (op : Nat) (work : State → PageCtx → Pg) (unit : Nat) : State :=
  match s.startable d q op with
  | none => s
  | some (i, l) =>
    let r := work (s.beginPage d q i) (pageCtx d q l)
    let s := r.s.setCounts d q i r.n (r.k / unit)
    if r.st ≠ 0 then s.endExec d q i r.st r.loc else s

/-- The counts of a piece of work are dropped. -/
def Pg.quiet (r : Pg) : Pg := { r with n := 0, k := 0 }

/-! ### MAP (R318) -/

/-- The tokens of a MAP are written into a page's frame. -/
def State.mapTokens (s : State) (c : PageCtx) (q : Seq) (latent : Bool) (toks : List (Nat × Nat)) (frame : Nat) : Pg :=
  let k := c.descs.getD 0 Desc.none
  let v := c.descs.getD 1 Desc.none
  let lat := c.descs.getD 2 Desc.none
  Pg.each s toks (fun s p =>
    let t := p.2 % q.page
    if latent then s.copyRun c.d c.who (lat.addr [0, p.1]) (frame + q.latOff t) (2 * q.latent)
    else Pg.each s ((List.range q.heads).flatMap (fun h => [(k, false, h), (v, true, h)])) (fun s r =>
      (s.copyRun c.d c.who (r.1.addr [0, r.2.2, p.1]) (frame + q.rowOff r.2.1 r.2.2 t) (q.dim * q.elemBytes)).andThen (fun s =>
        if q.format = 1 then s.copyRun c.d c.who (r.1.scaleAddr [0, r.2.2, p.1]) (frame + q.scaleOff r.2.1 r.2.2 t) (q.dim / 32)
        else Pg.ok s)))

/-- The tokens of a page that a MAP does not write are copied from its old frame to its new one (R304). -/
def State.keepTokens (s : State) (c : PageCtx) (q : Seq) (latent : Bool) (toks : List (Nat × Nat)) (old frame : Nat) : Pg :=
  let kept := (List.range q.page).filter (fun t => !toks.any (fun p => decide (p.2 % q.page = t)))
  let runs := if latent then kept.map (fun t => (q.latOff t, 2 * q.latent))
    else kept.flatMap (fun t => (List.range q.heads).flatMap (fun h => [false, true].flatMap (fun isV =>
      (q.rowOff isV h t, q.dim * q.elemBytes) :: (if q.format = 1 then [(q.scaleOff isV h t, q.dim / 32)] else []))))
  Pg.each s runs (fun s r => s.copyRun c.d c.who (old + r.1) (frame + r.1) r.2)

/-- One page of a MAP (R304, R318): n counts a new page, k a copy. A pin that would pass MEM_PIN_MAX ends the command before the
page is touched. -/
def State.mapPage (s : State) (c : PageCtx) (n : Nat) (q : Seq) (latent pin : Bool) (newLen : Nat) (toks : List (Nat × Nat))
    (i : Nat) : Pg :=
  let sealed := decide ((i + 1) * q.page ≤ newLen)
  if pin && !(s.pte c.d q i).pinned && s.pinTooMuch c.d (q.span latent) then Pg.fail (s.memAlert c.d 3) stPinRefused else
  let r := ((s.checkRead c.d c.who [(q.pteAddr i, 8)]).andThen (fun s => (s.bring c.d c.who n q i).quiet)).andThen (fun s =>
    let e := s.pte c.d q i
    if e.tier = 0 then
      let k := q.span latent
      let r := s.poolRoom c.d c.who k
      if r.st ≠ 0 then r.quiet
      else
        let u := r.n
        let a := r.s.dies[c.d].unitAddr u
        ((r.s.mapTokens c q latent toks a).map (fun s =>
          let s := s.adoptSpan c.d u k n i false (s.stamp c.d)
          s.setPte c.d q i { Pte.none with tier := 1, sealed := sealed, latent := latent, frame := a })).andThen
          (fun s => { Pg.ok s with n := 1 })
    else if !e.sealed ∧ (s.frame c.d (s.unitOfPte c.d e)).refs = 1 then
      (s.mapTokens c q latent toks e.frame).map (fun s => s.setPte c.d q i { e with sealed := sealed })
    else
      ((s.copyPage c.d c.who n q i
        (fun s old a => (s.keepTokens c q latent toks old a).andThen (fun s => s.mapTokens c q latent toks a))
        (fun e => { e with sealed := sealed, shadowed := false, mass := 0 })).quiet).andThen (fun s => { Pg.ok s with k := 1 }))
  r.andThen (fun s => if pin then (s.pinPage c.d q i true).quiet else Pg.ok s)

/-- The length of sequence n is written, in one write of 8 bytes (R296). -/
def State.setLength (s : State) (d : Die) (n : Nat) (q : Seq) (len : Nat) : State :=
  s.storeN (.die d) false (s.dies[d].seqAddr n + 8) (leBytes 4 len ++ leBytes 4 q.maxPages) false

/-- A MAP whose positions begin behind the last page of a sequence leaves that page behind: it is no longer the last mapped page, and so
sealed (R303; DEDUCED, assumption log 64). -/
def State.sealPassed (s : State) (c : PageCtx) (q : Seq) (newLen : Nat) : State :=
  let i := q.length / q.page
  let e := s.pte c.d q i
  if q.length % q.page ≠ 0 ∧ (i + 1) * q.page ≤ newLen ∧ e.tier ≠ 0 ∧ !e.sealed then s.setPte c.d q i { e with sealed := true } else s

/-- The work of MAP. -/
def State.mapWork (s : State) (c : PageCtx) : Pg :=
  let n := leAt c.body 0 2
  let q := c.seq n
  let flags := byteAt c.body 18
  let latent := flags.testBit 2
  let ps := mapPositions q c.body c.idx
  let pages := (ps.map (fun p => p.2 / q.page)).eraseDups
  let newLen := mapLength q ps
  let mapped (i : Nat) : Bool := decide ((s.pte c.d q i).tier ≠ 0)
  if pages.any (fun i => mapped i && ((s.pte c.d q i).latent != latent)) then Pg.fail s stLatent
  else if flags.testBit 1 && pages.any (fun i => mapped i && (s.pte c.d q i).sealed) then Pg.fail s stSealed
  else
    (Pg.each s pages (fun s i => s.mapPage c n q latent (flags.testBit 0) newLen (ps.filter (fun p => decide (p.2 / q.page = i))) i)).andThen
      (fun s => Pg.ok ((s.sealPassed c q newLen).setLength c.d n q newLen))

/-- MAP (R318). -/
def execMap (d : Die) (q : QIdx) (s : State) : Host.Outcome State Fault Refusal := .next (s.runPage d q 0x30 State.mapWork 1)

/-! ### SHARE, COW (R319, R320) -/

/-- The refcount of the frame of page i changed, if the page is mapped. -/
def State.addRef (s : State) (c : PageCtx) (q : Seq) (i : Nat) (f : Nat → Nat) : State :=
  let e := s.pte c.d q i
  if e.tier = 0 then s
  else
    let u := s.unitOfPte c.d e
    let x := s.frame c.d u
    s.setFrame' c.d u { x with refs := f x.refs }

/-- The first np pages of src are brought into the pool; each takes its new reference at once, so that a later one does not spill it
(R307, R319). Where one cannot be brought, the references are given back. -/
def State.bringShared (s : State) (c : PageCtx) (n : Nat) (src : Seq) (np : Nat) : Pg :=
  let r := Pg.each s (List.range np) (fun s i =>
    ((s.checkRead c.d c.who [(src.pteAddr i, 8)]).andThen (fun s => (s.bring c.d c.who n src i).quiet)).andThen
      (fun s => { Pg.ok (s.addRef c src i (· + 1)) with n := 1 }))
  if r.st = 0 then r.quiet
  else { r.quiet with s := (List.range r.n).foldl (fun (s : State) i => s.addRef c src i (· - 1)) r.s }

/-- The work of SHARE. -/
def State.shareWork (s : State) (c : PageCtx) : Pg :=
  let sn := leAt c.body 0 2
  let src := c.seq sn
  let dst := c.seq (leAt c.body 2 2)
  let np := leAt c.body 4 4
  let full (i : Nat) : Bool :=
    let e := s.pte c.d src i
    decide (e.tier ≠ 0) && decide (0xFFFE ≤ (s.frame c.d (s.unitOfPte c.d e)).refs)
  if (List.range np).any full then Pg.fail s stRefcountSat
  else
    ((s.bringShared c sn src np).andThen (fun s =>
      Pg.each s (List.range np) (fun s i =>
        let e := s.pte c.d src i
        let e := if e.tier = 0 then Pte.none else { e with pinned := false, shadowed := false }
        { Pg.ok (s.setPte c.d dst i e) with n := 1 }))).andThen
      (fun s => Pg.ok (s.setLength c.d (leAt c.body 2 2) dst (min src.length (np * src.page))))

/-- SHARE (R319). -/
def execShare (d : Die) (q : QIdx) (s : State) : Host.Outcome State Fault Refusal := .next (s.runPage d q 0x31 State.shareWork 1)

/-- The work of COW. -/
def State.cowWork (s : State) (c : PageCtx) : Pg :=
  let n := leAt c.body 0 2
  let q := c.seq n
  Pg.each s ((List.range (leAt c.body 8 4)).map (fun i => leAt c.body 4 4 + i)) (fun s i =>
    (s.checkRead c.d c.who [(q.pteAddr i, 8)]).andThen (fun s =>
      let e := s.pte c.d q i
      if e.tier = 0 ∨ (s.frame c.d (s.unitOfPte c.d e)).refs ≤ 1 then Pg.ok s
      else (s.copyPage c.d c.who n q i (fun s old a => s.copyRun c.d c.who old a (q.span e.latent * 4096)) id).quiet.andThen (fun s => { Pg.ok s with n := 1 })))

/-- COW (R320). -/
def execCow (d : Die) (q : QIdx) (s : State) : Host.Outcome State Fault Refusal := .next (s.runPage d q 0x32 State.cowWork 1)

/-! ### SPILL, PREFETCH, EVICT (R307, R310, R321) -/

/-- Spills until enough units are free, or nothing more can move. -/
def State.spillLoop (s : State) (c : PageCtx) (only : Option Nat) (from' to' units : Nat) : Nat → Nat → Pg
  | 0, _ => Pg.ok s
  | fuel + 1, freed =>
    if (if units = 0 then !s.aboveLow c.d else decide (units ≤ freed)) then Pg.ok s
    else
      let r := s.spillOne c.d c.who only from' to'
      if r.st = stNoCandidate ∨ r.st = stNoRoom then Pg.ok r.s
      else r.andThen (fun s => s.spillLoop c only from' to' units fuel (freed + r.k))

/-- The work of SPILL. -/
def State.spillWork (s : State) (c : PageCtx) : Pg :=
  let n := leAt c.body 0 2
  s.spillLoop c (if n = 0xFFFF then none else some n) (byteAt c.body 2) (byteAt c.body 3) (leAt c.body 4 4)
    ((s.dies[c.d].region (byteAt c.body 2)).units + 1) 0

/-- SPILL (R307). -/
def execSpill (d : Die) (q : QIdx) (s : State) : Host.Outcome State Fault Refusal := .next (s.runPage d q 0x33 State.spillWork 16)

/-- The pages that a PREFETCH covers. -/
def prefetchPages (q : Seq) (b : List Byte) : List Nat :=
  if (byteAt b 2).testBit 2 then (List.range q.pages).filter ((boxOf b).selects q)
  else ((List.range (leAt b 8 4)).map (fun i => leAt b 4 4 + i)).filter (fun i => decide (i < q.pages))

/-- The work of PREFETCH. -/
def State.prefetchWork (s : State) (c : PageCtx) : Pg :=
  let n := leAt c.body 0 2
  let q := c.seq n
  let flags := byteAt c.body 2
  Pg.each s (prefetchPages q c.body) (fun s i =>
    ((s.checkRead c.d c.who [(q.pteAddr i, 8)]).andThen (fun s => s.bring c.d c.who n q i)).andThen (fun s =>
      if flags.testBit 0 then s.pinPage c.d q i true
      else if flags.testBit 1 then s.pinPage c.d q i false else Pg.ok s))

/-- PREFETCH (R321). -/
def execPrefetch (d : Die) (q : QIdx) (s : State) : Host.Outcome State Fault Refusal := .next (s.runPage d q 0x34 State.prefetchWork 1)

/-- Bytes written at a device address by the PAGE engine. -/
def State.pageWrite (s : State) (d : Die) (who : Requester) (a : Nat) (bs : List Byte) : Pg :=
  match s.runWriteFail (pageView d) a bs.length with
  | some f => Pg.mem s d who true f
  | none => Pg.ok (s.storeN (.die d) true a bs false)

/-- The pair has not agreed on TWIN_COPY, which a twin window address needs (R376); outside PAIRED the access itself fails (R144). -/
def State.needsTwinCopy (s : State) : Bool := decide (s.fld R.PAIR_STATE 2 0 = 2) && !s.agreed 1

/-- Page i is one that an EVICT takes (R310). -/
def State.evictable (s : State) (c : PageCtx) (q : Seq) (i : Nat) : Bool :=
  let e := s.pte c.d q i
  e.sealed && decide (e.tier ≠ 0) && !e.pinned && decide (q.gCount ≤ i * q.page) && !((boxOf c.body).selects q i)
    && (decodeElem 0x03 false e.mass).lt (decodeElem 0x03 false (leAt c.body 2 2))

/-- The work of EVICT (R310, R311). -/
def State.evictWork (s : State) (c : PageCtx) : Pg :=
  let q := c.seq (leAt c.body 0 2)
  (Pg.each s (List.range q.pages) (fun s i =>
    (s.checkRead c.d c.who [(q.pteAddr i, 8)]).andThen (fun s =>
      if !s.evictable c q i then Pg.ok s
      else
        let e := s.pte c.d q i
        (if e.shadowed && decide (q.shPt ≠ 0) then
            if s.needsTwinCopy then Pg.fail s stNotSupported
            else (s.pageWrite c.d c.who (q.shPt + 8 * i) (leBytes 8 0)).andThen (fun s => { Pg.ok s with k := 1 }) else Pg.ok s).andThen (fun s =>
          let u := s.unitOfPte c.d e
          { Pg.ok ((s.setPte c.d q i Pte.none).unref c.d u e.pinned) with n := 1 })))).andThen (fun s =>
    if (byteAt c.body 4).testBit 0 then
      Pg.ok ((List.range q.pages).foldl (fun (s : State) i =>
        let e := s.pte c.d q i
        if e.tier = 0 then s else s.setPte c.d q i { e with mass := 0 }) s)
    else Pg.ok s)

/-- EVICT (R310). -/
def execEvict (d : Die) (q : QIdx) (s : State) : Host.Outcome State Fault Refusal := .next (s.runPage d q 0x35 State.evictWork 1)

/-! ### SHADOW, COMPACT (R316, R322) -/

/-- One page is copied to the twin, then its shadow entry written, then its shadowed flag set (R316). -/
def State.shadowPage (s : State) (c : PageCtx) (q : Seq) (i : Nat) : Pg :=
  let e := s.pte c.d q i
  let k := q.span e.latent
  let dst := q.shBase + i * k * 4096
  (((s.copyRun c.d c.who e.frame dst (k * 4096)).andThen (fun s =>
      s.pageWrite c.d c.who (q.shPt + 8 * i)
        (leBytes 8 (Pte.word { e with tier := 2, shadowed := true, pinned := false, mass := 0, frame := dst % 2 ^ 44 })))).map (fun s =>
    s.setPte c.d q i { e with shadowed := true })).andThen (fun s => { Pg.ok s with n := 1 })

/-- The work of SHADOW. -/
def State.shadowWork (s : State) (c : PageCtx) : Pg :=
  let q := c.seq (leAt c.body 0 2)
  let max := leAt c.body 4 4
  if s.fld R.PAIR_STATE 2 0 ≠ 2 then Pg.fail s stPeerUnavail
  else
    let all := (List.range q.pages).filter (fun i =>
      let e := s.pte c.d q i
      e.sealed && !e.shadowed && decide (e.tier ≠ 0))
    Pg.each s (if max = 0 then all else all.take max) (fun s i =>
      (s.checkRead c.d c.who [(q.pteAddr i, 8)]).andThen (fun s => s.shadowPage c q i))

/-- SHADOW (R316). -/
def execShadow (d : Die) (q : QIdx) (s : State) : Host.Outcome State Fault Refusal := .next (s.runPage d q 0x36 State.shadowWork 1)

/-- The lowest span of a region with refcount 1 that can move lower: (unit, sequence number, page) (R322). -/
def State.compactable (s : State) (d : Die) (r : Nat) : Option (Nat × Nat × Nat) :=
  let g := s.dies[d].region r
  (List.range g.units).findSome? (fun i =>
    let u := g.first + i
    let f := s.frame d u
    if f.refs = 1 ∧ !s.dies[d].page.deferred.any (fun x => decide (x.1 = u)) then
      match s.findSpan d r f.span with
      | some t => if t + f.span ≤ u then some (u, f.seq, f.page) else none
      | none => none
    else none)

/-- Spans move down until none can, or the next one would pass the limit: the body gives the most units to move (R317, R322; DEDUCED,
assumption log 65). -/
def State.compactLoop (s : State) (c : PageCtx) (r units : Nat) : Nat → Nat → Pg
  | 0, _ => Pg.ok s
  | fuel + 1, moved =>
    if units ≤ moved then Pg.ok s
    else match s.compactable c.d r with
      | none => Pg.ok s
      | some (u, n, i) =>
        if units < moved + (s.frame c.d u).span then Pg.ok s else
        let x := s.movePage c.d c.who n (readSeq (s.seqBytes c.d n)) i r
        if x.st = stNoRoom then Pg.ok x.s
        else { x with k := 0 }.andThen (fun s => s.compactLoop c r units fuel (moved + x.k))

/-- The longest run of free units among n units from u. -/
def State.longestRun (s : State) (d : Die) : Nat → Nat → Nat → Nat
  | 0, _, run => run
  | n + 1, u, run => if s.unitFree d u then s.longestRun d n (u + 1) (run + 1) else max run (s.longestRun d n (u + 1) 0)

/-- The work of COMPACT. -/
def State.compactWork (s : State) (c : PageCtx) : Pg :=
  let r := byteAt c.body 0
  let g := s.dies[c.d].region r
  if !s.paged c.d then Pg.ok s
  else (s.compactLoop c r (leAt c.body 4 4) (g.units + 1) 0).andThen (fun s => { Pg.ok s with k := s.longestRun c.d g.units g.first 0 })

/-- COMPACT (R322). -/
def execCompact (d : Die) (q : QIdx) (s : State) : Host.Outcome State Fault Refusal := .next (s.runPage d q 0x37 State.compactWork 16)

/-! ### Autonomous spill (R308) -/

/-- Whether autonomous spill is running (PG_STATUS.spilling). -/
def State.setSpilling (s : State) (d : Die) (b : Bool) : State :=
  s.modDie d (fun x => { x with page := { x.page with spilling := b }, pageBlk := x.pageBlk.set 1 (setBit x.pageBlk[1] 20 b) })

/-- Autonomous spill may take the PAGE engine: it is free and nothing is saved on it. To start, spill must be Weir's choice (R195); once
started it goes on unless a command of the slot is eligible (R196, R308). -/
def State.spillTurn (s : State) (d : Die) : Bool :=
  let en := s.dies[d].engines[engineIdx .page]
  s.dieRuns d && en.running.isNone && en.saved.isNone
    && (if s.dies[d].page.spilling then (s.eligible d .page).all (fun p => decide (p.2.1 ≠ 0))
        else (s.eligible d .page).all (fun p => decide (p.2.1 = 3)) && s.spillFirst d)

/-- Autonomous spill has the PAGE engine, and is the one served last in its class (R195, R308). -/
def State.startSpill (s : State) (d : Die) : State :=
  (s.setSpilling d true).modDie d (fun x =>
    let en := x.engines[engineIdx .page]
    { x with engines := x.engines.set (engineIdx .page) { en with lastServed := en.lastServed.set 3 8 } })

/-- The moves of the running PAGE command are those that state t has noted: others moved pages meanwhile. -/
def State.keepMoved (s t : State) (d : Die) : State :=
  s.modDie d (fun x => { x with page := { x.page with moved := t.dies[d].page.moved } })

/-- One page of autonomous spill (R308), with what the ECC found at its reads (R147). -/
def State.autoSpill (s : State) (d : Die) (ev : AccessEvent) : State :=
  if !s.spillWanted d then (if s.dies[d].page.spilling then s.setSpilling d false else s)
  else if !s.spillTurn d then s
  else
    let r := ((s.startSpill d).eccAt d true ev).spillPool d (.engine .page 8)
    let t := r.s.keepMoved s d
    if r.st = stNoCandidate then
      let t := t.pageAlert d 0
      (if field s.dies[d].memBlk[11] 19 0 ≤ field s.dies[d].memBlk[12] 19 0 then t.memAlert d 2 else t).setSpilling d false
    else if r.st = stNoRoom then t.setSpilling d false
    else if r.st ≠ 0 then (t.pageAlert d 3).setSpilling d false
    else t.setSpilling d (t.spillWanted d)

/-- AUTO_SPILL (R308). -/
def execAutoSpill (d : Reader Die) (s : State) : Host.Outcome State Fault Refusal := .next (s.autoSpill d.who d.met)

/-! ### The fill path (R309) -/

/-- The command of queue q that a page miss has stalled, with its place. -/
def State.stalledAt (s : State) (d : Die) (q : QIdx) : Option (Nat × Live) :=
  (s.dies[d].queues[q].live.zipIdx.find? (fun p =>
    decide (p.1.stall = 1) && decide (p.1.phase = .running ∨ p.1.phase = .preempted))).map (fun p => (p.2, p.1))

/-- The fill path brings the missed page into the pool, and the stalled step repeats: at once where the command holds its engine,
else when it resumes (R309). -/
def State.pageFill (s : State) (d : Die) (q : QIdx) (ev : AccessEvent) : State :=
  match s.stalledAt d q with
  | none => s
  | some (i, l) =>
    let who := queueRequester (.die d) q
    let s := s.eccAt d true ev
    let r := match (s.asFetched d l).attStop d l (attendOf l) with
      | some (.stall n p) => s.bring d who n (readSeq (l.note (0x1000 + n))) p
      | _ => Pg.ok s
    let r := { r with s := r.s.keepMoved s d }
    if r.st ≠ 0 then r.s.endExec d q i r.st r.loc
    else
      let s := r.s.modQueue (.die d) q (fun x => x.modLive i (fun l => { l with stall := 2 }))
      if l.phase = .running then s.attendRun d q i { l with stall := 2 } else s

/-- PAGE_FILL (R309). -/
def execPageFill (d : Die) (q : Reader QIdx) (s : State) : Host.Outcome State Fault Refusal :=
  .next (if s.dieRuns d then s.pageFill d q.who q.met else s)

/-! ### PG_CTRL (R324) -/

/-- Two runs of bytes overlap; an empty run overlaps none. -/
def runsOverlap (a n b m : Nat) : Bool := decide (n ≠ 0 ∧ m ≠ 0) && decide (a < b + m) && decide (b < a + n)

/-- Bytes a .. a + n - 1 lie in one of the local tiers. -/
def inLocal (a n : Nat) : Bool := isLocal a && isLocal (a + (n - 1)) && decide (tierOf a = tierOf (a + (n - 1)))

/-- PG_CTRL.enable may be set (R324). -/
def DieSt.pageReady (x : DieSt) : Bool :=
  let r (i : Nat) := x.region i
  let seqs := x.seqAddr 0
  let frames := x.frameAddr 0
  let fn := 16 * ((r 0).units + (r 1).units + (r 2).units)
  let clear (a n : Nat) : Bool := (List.range 3).all (fun i => !runsOverlap a n (r i).base ((r i).units * 4096))
  inLocal seqs 0x40000 && inLocal frames (max 1 fn) && clear seqs 0x40000 && clear frames fn
    && decide (field x.pageBlk[6] 15 0 + field x.pageBlk[7] 15 0 ≤ 49152)
    && (!bitAt x.pageBlk[0] 2 || decide (0x400000000000 ≤ (r 2).base ∧ (r 2).base + (r 2).units * 4096 ≤ 0x800000000000))

/-- PG_CTRL written (R324): auto_spill and t2_enable as written; enable set or cleared unless refused. -/
def State.writePageCtrl (s : State) (d : Die) (val : Word) : State :=
  let was := s.paged d
  let s := s.modDie d (fun x => { x with pageBlk := x.pageBlk.set 0 (setBit (setField x.pageBlk[0] 2 1 (field val 2 1)) 0 was) })
  let put (s : State) (b : Bool) := s.modDie d (fun x => { x with pageBlk := x.pageBlk.set 0 (setBit x.pageBlk[0] 0 b) })
  if bitAt val 0 = was then s
  else if bitAt val 0 then (if s.dies[d].pageReady then put s true else s.pageAlert d 4)
  else if (List.finRange 32).all (fun q => decide (engineOf q ≠ .page) || decide (s.dies[d].queues[q].state = 0)) && !s.dies[d].page.spilling
    then put s false else s.pageAlert d 4

/-- PAGE_ENABLE (R324). -/
def execPageEnable (d : Die) (val : Word) (s : State) : Host.Outcome State Fault Refusal :=
  .next (if s.reachable (.die d) then s.writePageCtrl d val else s.portUr (.die d))

end Sys2Proof.Machine
end

