-- ==== Sys2Proof/Machine/Memory.lean ====
section
/-!
DEFINITION. Memory tiers (06_memory_tiers): corrected and uncorrectable errors, patrol scrub, links going down and retraining,
the pool and its watermarks; and what the host and the twin reach of it (17_host_link R420-R426, 15_pairing R383): BAR2, the
aperture, the pair data ports, configuration space, MSI-X, doorbells, Function Level Reset and PERST_N.
-/
namespace Sys2Proof.Machine

open Sys2Proof

/-! ### Errors (R147-R151) -/

/-- An uncorrectable error is met at a local address of die d: the unit is poisoned, logged and reported (R149, R151). -/
def State.meetUe (s : State) (d : Die) (a : Nat) (who : Requester) (isWrite : Bool) : State :=
  let prop := (s.poisonAt (.die d a)).getD false
  let s := s.setPoison d (unitOf a) (some prop)
  let loc := s.locMem d.val a
  let s := s.logMemError d (if prop then 2 else 1) a loc who isWrite
  if prop then s else s.reportUe d loc

/-- Units of a tier: 8-byte words of tier 0, 32-byte sectors of tier 1 (R147). -/
def scrubUnits (tier1 : Bool) : Nat := if tier1 then 0x1800000000 / 32 else 0x80000000 / 8

/-- Device address of a unit. -/
def scrubAddr (tier1 : Bool) (unit : Nat) : Nat := if tier1 then 0x1000000000 + 32 * unit else 8 * unit

/-- The unit that patrol scrub reads next from position unit on: the first that is not in an unwritten tier 1 region (R152); none where
the rest of the tier is unwritten. -/
def State.scrubNext (s : State) (d : Die) (tier1 : Bool) (unit : Nat) : Option Nat :=
  if !tier1 then some unit
  else if s.written d (scrubAddr true unit) then some unit
  else ((s.dies[d].t1Written.filter (fun r => decide (scrubAddr true unit / 0x200000 < r))).min?).map
    (fun r => (r * 0x200000 - 0x1000000000) / 32)

/-- The position of patrol scrub in a tier. -/
def DieSt.scrubAt (x : DieSt) (tier1 : Bool) : Nat := if tier1 then x.scrub1 else x.scrub0

/-- Patrol scrub has read units of a tier up to position n; at the end of a tier a pass is over, counted for tier 0, and the next
begins (R148). -/
def State.scrubTo (s : State) (d : Die) (tier1 : Bool) (n : Nat) : State :=
  let passed := decide (scrubUnits tier1 ≤ n)
  let at' := if passed then 0 else n
  let s := s.modDie d (fun x => if tier1 then { x with scrub1 := at' } else { x with scrub0 := at' })
  if passed && !tier1 then
    s.modDie d (fun x => { x with memBlk := x.memBlk.set 14 (setField x.memBlk[14] 31 16 (field x.memBlk[14] 31 16 + 1)) })
  else s

/-- PATROL_SCRUB (R147, R148, R152): the next unit of a tier is read, corrected and written back; unwritten tier 1 regions are
skipped. -/
def State.scrub (s : State) (d : Die) (tier1 : Bool) (r : EccResult) : State :=
  match s.scrubNext d tier1 (s.dies[d].scrubAt tier1) with
  | none => s.scrubTo d tier1 (scrubUnits tier1)
  | some u =>
    let a := scrubAddr tier1 u
    let s := match r with
      | .ok => s
      | .corrected => s.countCorrected d a
      | .uncorrectable => s.meetUe d a .scrub false
    s.scrubTo d tier1 (u + 1)

/-- The unit that patrol scrub of a tier reads next, and whether its pass ends with it: the number of units, where nothing written is
left of the tier (R148, R152). -/
def State.scrubDue (s : State) (d : Die) (tier1 : Bool) : Nat × Bool :=
  match s.scrubNext d tier1 (s.dies[d].scrubAt tier1) with
  | none => (scrubUnits tier1, true)
  | some u => (u, decide (scrubUnits tier1 ≤ u + 1))

/-- PATROL_SCRUB: in Noon, Afternoon or Evening while MEM_SCRUB.enable is 1. A row that names another unit than the one due, or another
end of the pass, stands for no scrub (assumption log 10). -/
def execPatrolScrub (d : Die) (tier1 : Bool) (unit : Nat) (r : EccResult) (passDone : Bool) (s : State) :
    Host.Outcome State Fault Refusal :=
  .next (if s.dies[d].power ≤ 2 && bitAt s.dies[d].memBlk[14] 0 && decide (s.scrubDue d tier1 = (unit, passDone)) then s.scrub d tier1 r
    else s)

/-! ### Links (R145, R380) -/

/-- LINK_DOWN (R145): a die link goes down at both ends; a pair data port at this one. -/
def State.linkDown (s : State) (d : Die) (k : Fin 4) : State :=
  if k = 3 then
    let s' := s.linkOff d k
    if s.dies[d].linkUp[k] then { s' with pair := { s'.pair with signalAt := some s'.now } } else s'
  else (s.linkOff d k).linkOff (linkPeer d k) (linkTo (linkPeer d k) d)

/-- LINK_DOWN. -/
def execLinkDown (d : Die) (k : Fin 4) (s : State) : Host.Outcome State Fault Refusal := .next (s.linkDown d k)

/-- Link k of die d may retrain by itself: it has not within the last mt (R145). -/
def State.mayRetrain (s : State) (d : Die) (k : Fin 4) : Bool :=
  match s.dies[d].retrainAt[k] with
  | some t => decide (t + mtTicks ≤ s.now)
  | none => true

/-- Link k of die d, seen from that die, comes up by itself now. -/
def State.linkOn (s : State) (d : Die) (k : Fin 4) : State :=
  s.modDie d (fun x => { x with linkUp := x.linkUp.set k true, retrainAt := x.retrainAt.set k (some s.now) })

/-- LINK_RETRAIN (R145, R214, R380): at most once per mt a die link comes up between two powered dies, and the WAITs that it held back
are judged; a pair data port where neither end is parked. -/
def State.retrain (s : State) (d : Die) (k : Fin 4) : State :=
  if s.dies[d].linkUp[k] || !s.mayRetrain d k then s
  else if k = 3 then
    (if s.portAwake d then (s.setPort d true true).modDie d (fun x => { x with retrainAt := x.retrainAt.set 3 (some s.now) }) else s)
  else
    let e := linkPeer d k
    if s.dies[d].power < 5 ∧ s.dies[e].power < 5 then
      (((s.linkOn d k).linkOn e (linkTo e d)).settle (.die d)).settle (.die e)
    else s

/-- LINK_RETRAIN. -/
def execLinkRetrain (d : Die) (k : Fin 4) (s : State) : Host.Outcome State Fault Refusal := .next (s.retrain d k)

/-! ### The pool (R158, R159) -/

/-- MEM_ALERT.param_rejected. -/
def State.poolRejected (s : State) (d : Die) : State := s.memAlert d 4

/-- MEM_POOL_BASE or MEM_POOL_SIZE written (R158). -/
def State.writePool (s : State) (d : Die) (size : Bool) (val : Word) : State :=
  let m := s.dies[d].memBlk
  let base := if size then field m[8] 9 0 else field val 9 0
  let len := if size then field val 10 0 else field m[9] 10 0
  if field m[11] 19 0 = 0 ∧ base + len ≤ 1024 then
    s.modDie d (fun x => { x with memBlk := if size then x.memBlk.set 9 (BitVec.ofNat 32 len) else x.memBlk.set 8 (BitVec.ofNat 32 base) })
  else s.poolRejected d

/-- POOL_WRITE (R158). -/
def execPoolWrite (d : Die) (size : Bool) (val : Word) (s : State) : Host.Outcome State Fault Refusal :=
  .next (if s.reachable (.die d) then s.writePool d size val else s.portUr (.die d))

/-- MEM_WATERMARK written (R159); spill_active is judged against the new marks. -/
def State.writeWatermark (s : State) (d : Die) (val : Word) : State :=
  if field val 7 0 ≤ field val 15 8 then s.poolRejected d
  else
    let s := s.modDie d (fun x => { x with memBlk := x.memBlk.set 10 (val &&& 0xFFFF#32) })
    s.setUsed d (field s.dies[d].memBlk[11] 19 0)

/-- WATERMARK_WRITE (R159). -/
def execWatermarkWrite (d : Die) (val : Word) (s : State) : Host.Outcome State Fault Refusal :=
  .next (if s.reachable (.die d) then s.writeWatermark d val else s.portUr (.die d))

/-! ### BAR2 (R420-R422, R426, R430) -/

/-- The completion of a host request. -/
def State.respond (s : State) (r : HostResp) : State := { s with out := { s.out with resp := r } }

/-- The aperture base of die d (R420). -/
def DieSt.aperture (x : DieSt) : Nat := x.linkBlk[2].toNat + field x.linkBlk[3] 15 0 * 2 ^ 32

/-- HL_ERR counts a UR completion sent, and a refused BAR2 request (R422). -/
def State.countHl (s : State) (d : Die) (hi lo : Nat) : State :=
  s.modDie d (fun x => { x with linkBlk := x.linkBlk.set 11 (setField x.linkBlk[11] hi lo (satAt 0xFFFF (field x.linkBlk[11] hi lo + 1))) })

/-- A read that completes with UR. -/
def State.sendUr (s : State) (d : Die) : State := ((s.countHl d 31 16).aerBit (.die d) 0).respond .ur

/-- A BAR2 request during Dusk or Night (R422). -/
def State.refuseBar2 (s : State) (d : Die) (isWrite : Bool) : State :=
  let s := (s.countHl d 15 0).dieInt d 7
  if isWrite then s.aerBit (.die d) 0 else s.sendUr d

/-- n bytes from a lie in one local tier. -/
def localRange (a n : Nat) : Bool := isLocal a && isLocal (a + (n - 1)) && decide (tierOf a = tierOf (a + (n - 1)))

/-- Some unit of n bytes from local address a of die d is poisoned: its address. -/
def State.poisonIn (s : State) (d : Die) (a n : Nat) : Option Nat :=
  ((List.range n).find? (fun i => (s.poisonAt (.die d (a + i))).isSome)).map (fun i => a + i)

/-- What the ECC found at a read by the host or the twin (R147); an unwritten tier 1 region has no error (R152). -/
def State.eccEvent (s : State) (d : Die) (a n : Nat) (ev : AccessEvent) : State :=
  match ev with
  | .corrected b => if a ≤ b ∧ b < a + n ∧ s.written d b then s.countCorrected d b else s
  | .uncorrectable b => if a ≤ b ∧ b < a + n ∧ s.written d b then s.setPoison d (unitOf b) (some ((s.poisonAt (.die d b)).getD false)) else s
  | _ => s

/-- A read of local memory for the host or the twin: data, with EP set where it is poisoned (R151). -/
def State.serveRead (s : State) (d : Die) (a n : Nat) (who : Requester) (ev : AccessEvent) : State :=
  let s := s.eccEvent d a n ev
  let bs := (List.range n).map (fun i => s.peek (.die d (a + i)))
  match s.poisonIn d a n with
  | some b => (s.meetUe d b who false).respond (.poisoned bs)
  | none => s.respond (.ok bs)

/-- A host read through BAR2 of die d. -/
def State.bar2Read (s : State) (d : Die) (off n : Nat) (ev : AccessEvent) : State :=
  if s.dies[d].power = 3 ∨ s.dies[d].power = 4 then s.refuseBar2 d false
  else
    let a := s.dies[d].aperture + off
    if localRange a n then s.serveRead d a n .bar2 ev
    else
      let (loc, s) := s.freeLoc
      (s.logMemError d 3 a loc .bar2 false).sendUr d

/-- BAR2_READ (R151, R420-R422, R426, R430). A request beyond the BAR is not routed to the function. -/
def execBar2Read (fn : Fn) (off n : Nat) (ev : AccessEvent) (s : State) : Host.Outcome State Fault Refusal :=
  .next (match fn with
    | .die d =>
      if !s.reachable fn then s.portUr fn |>.respond (if s.switchOn then .ur else .none)
      else if 2 ^ s.dies[d].cfg.bar2Log < off + n then s
      else s.bar2Read d off n ev
    | .pf =>
      if !s.reachable fn ∨ 0x800000 < off + n then s
      else
        let bs := (List.range n).map (fun i => s.peek (.work (off + i)))
        if (List.range n).any (fun i => (s.poisonAt (.work (off + i))).isSome) then s.respond (.poisoned bs) else s.respond (.ok bs))

/-- A write to local memory of die d by the host or the twin; `ep` poisons the units written (R151). -/
def State.serveWrite (s : State) (d : Die) (a : Nat) (data : List Byte) (ep : Bool) : State :=
  let s := (List.range data.length).foldl (fun (s : State) i => s.poke (.die d (a + i)) (data.getD i 0)) s
  if ep then s.spoilUnits d a data.length else s.healUnits d a data.length

/-- A host write through BAR2 of die d. -/
def State.bar2Write (s : State) (d : Die) (off : Nat) (data : List Byte) (ep : Bool) : State :=
  if s.dies[d].power = 3 ∨ s.dies[d].power = 4 then s.refuseBar2 d true
  else
    let a := s.dies[d].aperture + off
    let s := if ep then s.aerBit (.die d) 1 else s
    if localRange a data.length then s.serveWrite d a data ep
    else
      let (loc, s) := s.freeLoc
      (s.logMemError d 3 a loc .bar2 true).aerBit (.die d) 0

/-- BAR2_WRITE (R151, R420-R422, R426, R430). -/
def execBar2Write (fn : Fn) (off : Nat) (data : List Byte) (ep : Bool) (s : State) : Host.Outcome State Fault Refusal :=
  .next (match fn with
    | .die d =>
      if !s.reachable fn then s.portUr fn
      else if 2 ^ s.dies[d].cfg.bar2Log < off + data.length ∨ data = [] then s
      else s.bar2Write d off data ep
    | .pf =>
      if !s.reachable fn ∨ 0x800000 < off + data.length then s else s.storeN .pf false off data ep)

/-- HL_BAR2_BASE written (R421). -/
def State.writeAperture (s : State) (d : Die) (high : Bool) (val : Word) : State :=
  let x := s.dies[d]
  let lo := if high then x.linkBlk[2] else val &&& 0xFFE00000#32
  let hi := if high then val &&& 0xFFFF#32 else x.linkBlk[3]
  if isLocal (lo.toNat + hi.toNat * 2 ^ 32) then
    s.modDie d (fun x => { x with linkBlk := (x.linkBlk.set 2 lo).set 3 hi })
  else s.dieInt d 8

/-- APERTURE_MOVE (R421, R422). -/
def execApertureMove (d : Die) (high : Bool) (val : Word) (s : State) : Host.Outcome State Fault Refusal :=
  .next (if s.reachable (.die d) then s.writeAperture d high val else s.portUr (.die d))

/-! ### The pair data port (R140, R141, R144, R383) -/

/-- An access that arrived on die d's pair data port. -/
def State.pairRequest (s : State) (d : Die) (k : PortAccess) (a n : Nat) (data : List Byte) : State :=
  if !s.twinOpen || decide (2 < s.dies[d].power) then s.respond .peerUnavail
  else match k with
    | .write => if localRange a data.length then (s.serveWrite d a data false).respond (.ok []) else s.respond .memRange
    | .read ev => if localRange a n then s.serveRead d a n .twin ev else s.respond .memRange

/-- PAIR_PORT_REQUEST (R383, R384): served, or refused by the fence; either way the peer has signalled. -/
def execPairPortRequest (d : Die) (a : PortAccess) (addr n : Nat) (data : List Byte) (s : State) : Host.Outcome State Fault Refusal :=
  .next (if s.dies[d].linkUp[(3 : Fin 4)] then
      { s with pair := { s.pair with signalAt := some s.now } }.pairRequest d a addr n data
    else s)

/-! ### MSI-X (R424) -/

/-- The state with the MSI-X part of a function replaced. -/
def State.setMsix (s : State) (fn : Fn) (m : Msix) : State :=
  match fn with
  | .die d => s.modDie d (fun x => { x with msix := m })
  | .pf => { s with pf := { s.pf with msix := m } }

/-- Number of vectors of a function (R410). -/
def vectors : Fn → Nat
  | .die _ => 2048
  | .pf => 32

/-- A write of one word of the MSI-X table: word 3 bit 0 of an entry is its mask, and unmasking sends a pending message. -/
def State.writeMsix (s : State) (fn : Fn) (word : Nat) (val : Word) : State :=
  let m := s.msixOf fn
  let v := word / 4
  if word % 4 ≠ 3 then s.setMsix fn { m with table := SMap.set 0 m.table word val }
  else if bitAt val 0 then s.setMsix fn { m with unmasked := m.unmasked.filter (· ≠ v) }
  else
    let m := { m with unmasked := if m.unmasked.contains v then m.unmasked else m.unmasked ++ [v] }
    if m.enable && m.pending.contains v then
      let s := s.setMsix fn { m with pending := m.pending.filter (· ≠ v) }
      { s with out := { s.out with msix := s.out.msix ++ [(fn, v)] } }
    else s.setMsix fn m

/-! ### Configuration space (R410, R412, R415, R423, R424) -/

/-- Configuration space of a function. -/
def State.cfgOf (s : State) : Fn → CfgSpace
  | .die d => s.dies[d].cfg
  | .pf => s.pf.cfg
def State.setCfg (s : State) (fn : Fn) (c : CfgSpace) : State :=
  match fn with
  | .die d => s.modDie d (fun x => { x with cfg := c })
  | .pf => { s with pf := { s.pf with cfg := c } }

/-- Bytes of BAR0 and BAR2. -/
def bar0Size : Fn → Nat
  | .die _ => 0x2000000
  | .pf => 0x40000
def bar2Size (c : CfgSpace) : Fn → Nat
  | .die _ => 2 ^ c.bar2Log
  | .pf => 0x800000

/-- The value of a part of configuration space (R410, R412, R413, R416, R423, R424, R426). A Link Status register has the current speed
code in bits 3:0, the width in bits 9:4 and Data Link Layer Active in bit 13, as the PCIe base specification lays it out (PRESUMED,
assumption log 62). -/
def State.cfgRead (s : State) (fn : Fn) (r : CfgReg) : Nat :=
  let c := s.cfgOf fn
  let dev := match fn with | .die _ => 0xA400 | .pf => 0xA401
  match r with
  | .vendorDevice => 0x1F6A + dev * 65536
  | .subsystem => 0x1F6A + dev * 65536
  | .classCode => match fn with | .die _ => 0x120000 | .pf => 0x088000
  | .serial => match fn with | .die d => (Config.dieSerial d).toNat | .pf => Config.traySerial.toNat
  | .command => c.command
  | .bar0 => c.bar0
  | .bar2 => c.bar2
  | .bar2Size => match fn with | .die _ => c.bar2Log | .pf => 23
  | .msixControl => b2n (s.msixOf fn).enable
  | .devControl => b2n c.relaxed
  | .devControl2 => c.timeout
  | .portLinkStatus =>
    let p := portOf fn
    let up := match fn with | .die d => decide (s.dies[d].power < 5) && s.dies[d].pcieUp | .pf => !s.pwr.stopped
    s.sw.speed[p] + 16 * s.sw.width[p] + 2 ^ 13 * b2n up
  | .upLinkStatus => s.sw.upSpeed + 16 * s.sw.upWidth + 2 ^ 13
  | .portIdentity => 0x1F6A + 0xA40E * 65536
  | .upIdentity => 0x1F6A + 0xA40F * 65536
  | .portClass => 0x060400
  | .upClass => 0x060400
  | .acsRedirect => b2n s.sw.redirect[portOf fn]

/-- A write of a part of configuration space. -/
def State.cfgWrite (s : State) (fn : Fn) (r : CfgReg) (v : Nat) : State :=
  let c := s.cfgOf fn
  match r with
  | .command => s.setCfg fn { c with command := v % 65536 }
  | .bar0 => s.setCfg fn { c with bar0 := v % 2 ^ 64 / bar0Size fn * bar0Size fn }
  | .bar2 => s.setCfg fn { c with bar2 := v % 2 ^ 64 / bar2Size c fn * bar2Size c fn }
  | .bar2Size =>
    match fn with
    | .die d =>
      if 28 ≤ v ∧ v ≤ 32 then
        (s.setCfg fn { c with bar2Log := v, bar2 := c.bar2 / 2 ^ v * 2 ^ v }).modDie d
          (fun x => { x with linkBlk := x.linkBlk.set 4 (BitVec.ofNat 32 v) })
      else s
    | .pf => s
  | .msixControl => s.setMsix fn { s.msixOf fn with enable := v.testBit 0 }
  | .devControl => s.setCfg fn { c with relaxed := v.testBit 0 }
  | .devControl2 => s.setCfg fn { c with timeout := v % 16 }
  | .acsRedirect => { s with sw := { s.sw with redirect := s.sw.redirect.set (portOf fn) (v.testBit 0) } }
  | _ => s

/-- CONFIG_REQUEST (R412, R415): a function answers, or the switch from its store while the die is in Midnight. -/
def execConfigRequest (fn : Fn) (r : CfgReg) (wr : Option Nat) (s : State) : Host.Outcome State Fault Refusal :=
  .next (if !s.switchOn then s
    else match wr with
      | some v => (s.cfgWrite fn r v).respond (.ok [])
      | none => s.respond (.ok (leBytes 8 (s.cfgRead fn r))))

/-! ### Doorbells (R165, R166, R192) -/

/-- A doorbell that the queue accepts (R165). -/
def Queue.accepts (q : Queue) (t : Word) : Bool :=
  decide (q.state = 1 ∨ q.state = 2) && decide ((t - q.head).toNat ≤ 2 ^ q.ringLog)
    && decide ((t - q.tail).toNat ≤ (t - q.head).toNat)

/-- Acceptance number n has been given to a doorbell of die d: the first one while a power-state message is pending is noted (R36). -/
def DieSt.noteBell (x : DieSt) (n : Nat) : DieSt :=
  if x.msgs.any (sameKind (.power 0)) then { x with bellFrom := some (x.bellFrom.getD n) } else { x with bellFrom := none }

/-- A doorbell reaches its queue. -/
def State.ring (s : State) (fn : Fn) (q : QIdx) (t : Word) (width : Nat) : State :=
  let x := s.queue fn q
  if width ≠ 4 || !x.accepts t then s.modQueue fn q (fun x => { x with badDoorbell := true })
  else if t = x.tail then s
  else
    let n := s.slot.bells
    let s := s.modQueue fn q (fun x => { x with tail := t, bells := x.bells ++ [(t, n)] })
    let s : State := { s with slot := { s.slot with bells := n + 1 } }
    match fn with
    | .die d => (s.modDie d (fun x => x.noteBell n)).doorbellWake d
    | .pf => s

/-- DOORBELL (R165, R415). -/
def execDoorbell (fn : Fn) (q : QIdx) (tail : Word) (width : Nat) (s : State) : Host.Outcome State Fault Refusal :=
  .next (if s.reachable fn then s.ring fn q tail width else s.portUr fn)

/-! ### FLR and PERST_N (R427-R429) -/

/-- A die after a Function Level Reset (R427): its power state, memories, raster counter, sync objects and CMD_EPOCH stay. -/
def DieSt.flr (x : DieSt) : DieSt :=
  let r := DieSt.reset
  { x with queues := r.queues, engines := r.engines, cmdBlk := r.cmdBlk.set 4 x.cmdBlk[4], memBlk := r.memBlk,
           weirBlk := r.weirBlk, pageBlk := r.pageBlk, linkBlk := r.linkBlk, slotCap := 0, objCap := [],
           sigLo := [], waiters := r.waiters, rasCap := 0, rasCapValid := false, rasCapGen := 0, page := r.page,
           msix := r.msix, cfg := { r.cfg with aer := x.cfg.aer } }

/-- An update slot whose command is gone finishes without a record (R427). -/
def State.orphanSlots (s : State) : State :=
  (List.range 16).foldl (fun (s : State) n =>
    let z := s.slotAt n
    match z.owner with
    | .queue _ => if z.active then s.setSlot n { z with owner := .none } else s.setSlot n Slot.free
    | _ => s) s

/-- A Function Level Reset (R427). -/
def State.functionReset (s : State) (fn : Fn) : State :=
  match fn with
  | .die d => (((s.abandonWrites d).modDie d DieSt.flr).releaseSlot).settle fn
  | .pf =>
    let s := s.orphanSlots
    { s with pf := { PfSt.reset with status := s.pf.status, sigOut := s.pf.sigOut, seen := s.pf.seen,
                                     cfg := { CfgSpace.reset with aer := s.pf.cfg.aer } } }

/-- FLR (R427). -/
def execFlr (fn : Fn) (s : State) : Host.Outcome State Fault Refusal := .next (if s.switchOn then s.functionReset fn else s)

/-- All five functions are reset. -/
def State.resetAll (s : State) : State :=
  ((((s.functionReset (.die 0)).functionReset (.die 1)).functionReset (.die 2)).functionReset (.die 3)).functionReset .pf

/-- PERST_N_FALL (R414, R428). -/
def execPerstNFall (s : State) : Host.Outcome State Fault Refusal :=
  .next (if s.pins.perstN then
      let s := s.resetAll
      { s with pins := { s.pins with perstN := false } }
    else s)

/-- The upstream link has trained (R413). -/
def Switch.train (w : Switch) (speed width : Nat) : Switch := { w with upSpeed := speed, upWidth := width }

/-- A speed and a width that the upstream link can train to (R410, R413), by a free choice. -/
def trainedTo (k : Nat) : Nat × Nat :=
  (1 + Config.freeAt k 0 % 6, [16, 8, 4, 1].getD (Config.freeAt k 1 % 4) 16)

/-- PERST_N_RISE (R108, R111, R413, R428, R429): the switch powers up and its upstream link trains, to a speed and width that host and
cable decide and the row does not give, so they are free (assumption log 62); WAKE_N is released, and the edge is a wake source. -/
def execPerstNRise (s : State) : Host.Outcome State Fault Refusal :=
  .next (if s.pins.perstN then s
    else
      let (k, s) := s.draw
      let s : State := { s with pins := { s.pins with perstN := true, wakeN := true }, sw := s.sw.train (trainedTo k).1 (trainedTo k).2 }
      if s.bit R.PWR_WAKE_EN 1 then s.wakeTray 2 else s)

/-! ### Completion timeout (R426) -/

/-- COMPLETION_TIMEOUT (R426): the command of queue q that waits for the host's completion ends with MEM_RANGE. The address of
the read is not given, so it is free in the error log (assumption log 7). -/
def execCompletionTimeout (d : Die) (q : QIdx) (s : State) : Host.Outcome State Fault Refusal :=
  let x := s.dies[d].queues[q]
  .next (match x.live.zipIdx.find? (fun p => decide (p.1.phase = .running)) with
    | some (_, n) =>
      let (k, s) := s.draw
      let a := 0x400000000000 + Config.freeNat k % 0x400000000000
      let s := s.aerBit (.die d) 2
      let (loc, s) := s.freeLoc
      let s := s.logMemError d 3 a loc (queueRequester (.die d) q) false
      s.cut d q n stMemRange loc
    | none => s)

end Sys2Proof.Machine
end

