-- ==== Sys2Proof/Machine/PfWrite.lean ====
section
/-!
DEFINITION. Writes of the Prilliner's BAR0 registers (R188, R430, R431), those that the dies post to it through the switch (R416, R417,
R419), and the completion of a command, before whose SIGNAL they have arrived (R155, R174).
-/
namespace Sys2Proof.Machine

open Sys2Proof

/-! ### Register writes -/

/-- Q_CTRL (R188); a code outside the table is not allowed in any state. -/
def State.queueControl (s : State) (fn : Fn) (q : QIdx) (code : Nat) : State :=
  match code with
  | 1 => s.enableQueue fn q
  | 2 => s.disableQueue fn q
  | 3 => s.resumeQueue fn q
  | 4 => s.rebindQueue fn q
  | 5 => s.resetQueue fn q
  | _ => s.ctrlIgnored fn q

/-- A write at offset o of a queue's block. -/
def State.queueWrite (s : State) (fn : Fn) (q : QIdx) (o : Nat) (val : Word) : State :=
  if o < 0x1C then s.configQueue fn q o val
  else if o = 0x1C then s.queueControl fn q (field val 3 0)
  else if o = 0x20 then
    s.modQueue fn q (fun x => { x with badDoorbell := x.badDoorbell && !bitAt val 5, ctrlIgnored := x.ctrlIgnored && !bitAt val 6,
                                       badRing := x.badRing && !bitAt val 7 })
  else if o = 0x2C then s.consumed fn q val
  else s

/-- An aligned 32-bit write at offset o of the Prilliner's BAR0 (R430, R431). -/
def State.pfBar0Write (s : State) (o : Nat) (val : Word) : State :=
  if o = 0x04 then s.hostAck (field val 15 0)
  else if o = 0x08 then { s with pf := { s.pf with intStatus := s.pf.intStatus &&& ~~~ (val &&& 0x1F#32) } }
  else if o = 0x0C then { s with pf := { s.pf with intMask := val &&& 0x1F#32 } }
  else if o = 0x10 then { s with pf := { s.pf with ctrl := val &&& 1#32 } }
  else if 0x1000 ≤ o ∧ o < 0x1100 then s.queueWrite .pf (Fin.ofNat 32 ((o - 0x1000) / 64)) (o % 64) val
  else if 0x10000 ≤ o ∧ o < 0x14000 then
    (if o % 0x1000 = 0 then s.ring .pf (Fin.ofNat 32 ((o - 0x10000) / 0x1000)) val 4 else s)
  else if 0x20000 ≤ o ∧ o < 0x20200 then s.writeMsix .pf ((o - 0x20000) / 4) val
  else s

/-- A write of `width` bytes that a die made in the word at offset o of the Prilliner's BAR0: 4 bytes are an aligned 32-bit access; another
width sets bad_doorbell on a doorbell page, and is ignored elsewhere (R165, R419). -/
def State.pfPosted (s : State) (o : Nat) (val : Word) (width : Nat) : State :=
  if !s.reachable .pf then s
  else if width = 4 then s.pfBar0Write o val
  else if 0x10000 ≤ o ∧ o < 0x14000 ∧ o % 0x1000 = 0 then s.ring .pf (Fin.ofNat 32 ((o - 0x10000) / 0x1000)) val width
  else s

/-! ### What waits at port 4 (R417) -/

/-- The next write that port 4 takes: the dies have their turns round robin. -/
def Switch.nextPf (w : Switch) : Option (Die × Nat × Word × Nat) :=
  (List.finRange 4).findSome? (fun i : Fin 4 =>
    let d : Die := w.pfTurn + i
    (w.toPf[d].head?).map (fun x => (d, x)))

/-- One write reaches the Prilliner. -/
def State.deliverOne (s : State) : State :=
  match s.sw.nextPf with
  | none => s
  | some (d, o, val, width) =>
    { s with sw := { s.sw with toPf := s.sw.toPf.set d (s.sw.toPf[d].drop 1), pfTurn := d + 1 } }.pfPosted o val width

/-- Everything that the dies have posted reaches the Prilliner. -/
def State.deliverPosted (s : State) : State :=
  (List.range (s.sw.toPf.toList.map List.length).sum).foldl (fun (s : State) _ => s.deliverOne) s

/-! ### Completion -/

/-- COMMAND_COMPLETE (R155, R174, R183). -/
def execCommandComplete (fn : Fn) (q : QIdx) (busyDc : Nat) (recordOk : Bool) (s : State) :
    Host.Outcome State Fault Refusal :=
  .next (if s.completes fn then s.deliverPosted.complete fn q busyDc recordOk else s)

end Sys2Proof.Machine
end

