-- ==== Sys2Proof/Machine/Fetch.lean ====
section
/-!
DEFINITION. Reading commands from their rings with step 1 (R167, R171), step 4 (R179, R180, R194, R208), NOP, and the ends of
execution steps (R187, R207) with the faults that the hardware meets in them (R145-R151, R426).
-/
namespace Sys2Proof.Machine

open Sys2Proof

/-! ### Step 1 (R171, R174) -/

/-- The status of a command's body, as far as it is judged at step 1; matrix, attention and the refused ELTWISE chains are judged
at step 4 (R238, R244, R289). -/
def State.bodyStatus (s : State) (fn : Fn) (bs : List Byte) : Nat :=
  let h := header bs
  let b := bs.drop 16
  let op := h.opcode
  let bad (ok : Bool) : Nat := if ok then stOk else stBadBody
  match fn with
  | .pf => s.panelBodyStatus bs
  | .die _ =>
    if op = 0x00 then bad (decide (leAt b 0 48 = 0))
    else if op = 0x14 then bad (statsBodyOk b)
    else if op = 0x15 then (if h.chain ∈ [0x19, 0x1A, 0x1B] then stOk else bad (eltwiseBodyOk h.chain b))
    else if op = 0x16 then bad (classifyBodyOk b)
    else if 0x20 ≤ op ∧ op ≤ 0x23 then bad (copyBodyOk op b)
    else if 0x30 ≤ op ∧ op ≤ 0x37 then bad (pageBodyOk op b)
    else stOk

/-- A PANEL command names only tray-global objects (R346). -/
def panelObjects (h : Header) : Bool := decide (256 ≤ h.waitObj) && decide (256 ≤ h.signalObj)

/-- The status of a command's header and body as read (R171). -/
def State.step1 (s : State) (fn : Fn) (q : QIdx) (bs : List Byte) : Nat :=
  let h := header bs
  let st := headerStatus (fnEngine fn q) h
  if st ≠ stOk then st
  else if fn = .pf ∧ !panelObjects h then stBadHeader
  else s.bodyStatus fn bs

/-- A command read at a position; one that fails step 1 ends when its turn comes. -/
def newLive (pos : Word) (bs : List Byte) (st : Nat) (loc : Word) (first : Bool) (bell : Nat) (pf : Bool) : Live :=
  { pos := pos, bytes := bs, phase := .waiting, status := st, location := loc, result := 0,
    notBefore := none, dueBy := none, first := first, bell := bell, descs := [], marks := 0, ageMarks := 0, aged := false,
    steps := 0, splits := 0, preempts := 0, restart := false, busy := 0, stamp := 0, slotUsed := if pf then 0xFF else 0,
    bandUsed := if pf then 0xFF else 0, frames := 0, reason := 0, undo := [], stall := 0, notes := [], fetched := [], choice := 0,
    cancel := false }

/-- The acceptance number of the earliest doorbell that made a position visible (R200). -/
def Queue.bellOf (q : Queue) (pos : Word) : Nat :=
  ((q.bells.find? (fun b => decide ((pos - q.head).toNat < (b.1 - q.head).toNat))).map (·.2)).getD 0

/-- A doorbell that came while a power-state message is pending made the command visible, so that it waits for the state that the message
establishes (R36). -/
def DieSt.awaitsState (x : DieSt) (bell : Nat) : Bool :=
  x.msgs.any (sameKind (.power 0)) && (match x.bellFrom with | some n => decide (n ≤ bell) | none => false)

/-- The next command of a queue can be read (R36, R167, R168, R181, R187): the queue runs, is not stale, has a visible command and a free
record slot, and the commands before it allow it. -/
def State.fetchable (s : State) (fn : Fn) (q : QIdx) : Bool :=
  let x := s.queue fn q
  s.fnRuns fn && decide (x.state = 1) && !x.stale && decide (x.next ≠ x.tail) && !x.full
    && (match fn with | .die d => !s.dies[d].awaitsState (x.bellOf x.next) | .pf => true)
    && (match x.live.getLast? with | none => true | some l => l.issued fn)

/-- What the hardware meets when an engine of die d reads runs of bytes: an error of the host's answer, with its log, or none; and what the
ECC found at a byte of memory (R147, R426). A host fault is placed at the die's PCIe port. -/
def State.meetRead (s : State) (d : Die) (who : Requester) (tw : Bool) (spans : List (Nat × Nat)) (ev : AccessEvent) :
    Option (Nat × Word) × State :=
  let reads (b : Nat) : Bool := spans.any (fun p => decide (p.1 ≤ b ∧ b < p.1 + p.2))
  let host (b : Nat) : Bool := match s.routeFn (.die d) tw b with | .ok (.host _) => true | _ => false
  match ev with
  | .corrected b => (none, if reads b then s.eccAt d tw ev else s)
  | .uncorrectable b => (none, if reads b then s.eccAt d tw ev else s)
  | .hostAbort b =>
    if reads b && host b then
      (some (stMemRange, s.loc 0 d.val 9 0), (s.aerBit (.die d) 3).logMemError d 3 b (s.loc 0 d.val 9 0) who false) else (none, s)
  | .hostPoison b =>
    if reads b && host b then
      (some (stMemUe, s.loc 0 d.val 9 0), (s.aerBit (.die d) 1).logMemError d 2 b (s.loc 0 d.val 9 0) who false) else (none, s)
  | _ => (none, s)

/-- The 64 bytes of a command, or the location of the fault that made them unreadable (R186). -/
def State.readSlot (s : State) (fn : Fn) (q : QIdx) (a : Nat) (ev : AccessEvent) : Except Word (List Byte) × State :=
  let who := queueRequester fn q
  let (r, s) := match fn with | .die d => s.meetRead d who false [(a, 64)] ev | .pf => (none, s)
  match s.readCheck fn false a 64 with
  | some f => let (loc, s) := s.raiseMem fn false who false f; (.error loc, s)
  | none => match r with
    | some (_, loc) => (.error loc, s)
    | none => (.ok (s.loadN fn false a 64), s)

/-- The die or the Prilliner reads the next command of a queue and validates it (R167, R171, R186). Of a slot that the host has changed
since its doorbell, R166 leaves the mix of old and new bytes open: the model takes the memory as it stands at this row (DESIGN CHOICE,
assumption log 57). -/
def State.fetch (s : State) (fn : Fn) (q : QIdx) (ev : AccessEvent) : State :=
  let x := s.queue fn q
  let (r, s) := s.readSlot fn q (x.ringBase + 64 * (x.next.toNat % 2 ^ x.ringLog)) ev
  let (bs, st, loc, s) := match r with
    | .ok bs => (bs, s.step1 fn q bs, (0 : Word), s)
    | .error loc => let (bs, s) := s.freeBytes 64; (bs, stRingFault, loc, s)
  let l := newLive x.next bs st loc (!x.listOpen) (x.bellOf x.next) (decide (fn = .pf))
  let s := s.modQueue fn q (fun y =>
    { y with live := y.live ++ [l], next := y.next + 1, listOpen := decide (st = stRingFault) || !(header bs).listEnd })
  s.settle fn

/-- COMMAND_FETCH (R167). -/
def execCommandFetch (fn : Fn) (q : QIdx) (ev : AccessEvent) (s : State) : Host.Outcome State Fault Refusal :=
  .next (if s.fetchable fn q then s.fetch fn q ev else s)

/-! ### Step 4 (R174, R179, R180) -/

/-- The places of the descriptor indices in a body, with whether 0xFFFF is allowed there (R176). -/
def descFields (op : Nat) (b : List Byte) : List (Nat × Bool) :=
  let latent := (byteAt b 18).testBit 2
  let paged := (byteAt b 20).testBit 1
  match op with
  | 0x10 | 0x11 => [(0, false), (2, false), (4, false), (6, true), (8, true), (10, true), (12, true)]
  | 0x12 => [(0, false), (2, paged), (4, paged), (6, false), (8, false), (10, false), (12, !(byteAt b 20).testBit 0), (14, true),
      (16, true), (18, true)]
  | 0x13 => [(0, false), (2, false), (4, false), (6, false), (8, false), (10, false), (12, false), (14, false), (16, true),
      (18, true), (20, true), (22, false), (24, false), (26, false)]
  | 0x14 | 0x20 | 0x22 | 0x23 => [(0, false), (2, false)]
  | 0x15 => [(0, false), (4, false), (6, true), (8, true), (10, true), (12, true)]
  | 0x16 => [(0, false), (2, false), (4, true)]
  | 0x21 => [(2, false)]
  | 0x30 => [(2, latent), (4, latent), (6, !latent), (16, true)]
  | _ => []

/-- A step-4 reading in progress: status 0 while it goes on. -/
structure Read4 where
  s : State
  /-- What the hardware still has to meet at one of the reads. -/
  ev : AccessEvent
  st : Nat
  loc : Word
  descs : List Desc
  notes : List (Nat × List Byte)

def Read4.andThen (r : Read4) (f : Read4 → Read4) : Read4 := if r.st ≠ 0 then r else f r

/-- A status that ends the reading, unless it is OK. -/
def Read4.judge (r : Read4) (f : Read4 → Nat) : Read4 := r.andThen (fun r => { r with st := f r })

/-- CMD_DESC_BASE. -/
def DieSt.descBase (x : DieSt) : Nat := x.cmdBlk[5].toNat + field x.cmdBlk[6] 15 0 * 2 ^ 32

/-- The byte that an event names lies in runs of bytes. -/
def evWithin (ev : AccessEvent) (spans : List (Nat × Nat)) : Bool :=
  match ev with
  | .corrected b | .uncorrectable b | .hostAbort b | .hostPoison b => spans.any (fun p => decide (p.1 ≤ b ∧ b < p.1 + p.2))
  | _ => false

/-- Runs of bytes are read for queue q of die d, which meets an error at most once; a failure ends the reading with its status (R146,
R147). -/
def Read4.load (r : Read4) (d : Die) (q : QIdx) (spans : List (Nat × Nat)) (f : Read4 → Read4) : Read4 :=
  r.andThen (fun r =>
    let v := viewOf (.die d) q
    let (hit, s) := r.s.meetRead d (queueRequester (.die d) q) v.tw spans r.ev
    let r := { r with s := s, ev := if evWithin r.ev spans then .none else r.ev }
    match r.s.readFail v spans with
    | some e =>
      let (loc, s) := r.s.raiseMem (.die d) v.tw (queueRequester (.die d) q) false e
      { r with s := s, st := e.status, loc := loc }
    | none => match hit with
      | some (st, loc) => { r with st := st, loc := loc }
      | none => f r)

/-- The 64 bytes of descriptor table entry i. -/
def State.descBytes (s : State) (d : Die) (i : Nat) : List Byte := s.loadN (.die d) false (s.dies[d].descBase + 64 * i) 64

/-- A named descriptor is read and validated (R176, R177, R179). -/
def Read4.desc (r : Read4) (d : Die) (q : QIdx) (i : Nat) (optional : Bool) : Read4 :=
  r.andThen (fun r =>
    if i = 0xFFFF then (if optional then { r with descs := r.descs ++ [Desc.none] } else { r with st := stBadDesc })
    else if 4096 ≤ i then { r with st := stBadDesc }
    else r.load d q [(r.s.dies[d].descBase + 64 * i, 64)] (fun r =>
      let bs := r.s.descBytes d i
      if descValid bs then { r with descs := r.descs ++ [readDesc bs] } else { r with st := stBadDesc }))

/-- The elements of a tensor as little-endian codes in dimension order are noted under a key. -/
def Read4.noteTensor (r : Read4) (d : Die) (q : QIdx) (key : Nat) (t : Desc) : Read4 :=
  r.load d q t.spans (fun r =>
    let v := viewOf (.die d) q
    { r with notes := r.notes ++ [(key, (List.range t.count).flatMap (fun n => leBytes 4 (r.s.elemCode v t (unrank t.shape n))))] })

/-- A sequence descriptor is read, validated with its expansion matrices, and noted (R296); a COMPUTE command's matrices lie in no twin
window (R143). -/
def Read4.seq (r : Read4) (d : Die) (q : QIdx) (n : Nat) : Read4 :=
  r.andThen (fun r =>
    if 4096 ≤ n ∨ !r.s.paged d then { r with st := stBadSeq }
    else r.load d q [(r.s.dies[d].seqAddr n, 64)] (fun r =>
      let bs := r.s.seqBytes d n
      let x := readSeq bs
      if !seqOk bs then { r with st := stBadSeq }
      else
        let r := { r with notes := r.notes ++ [(0x1000 + n, bs)] }
        if x.rank = 0 then r
        else [x.uk, x.uv].foldl (fun (r : Read4) i => r.andThen (fun r =>
          if 4096 ≤ i then { r with st := stBadSeq }
          else r.load d q [(r.s.dies[d].descBase + 64 * i, 64)] (fun r =>
            let bs := r.s.descBytes d i
            if engineOf q = .compute ∧ (readDesc bs).touchesTwin then { r with st := stTwinOperand }
            else if descValid bs && x.matrixOk (readDesc bs) then { r with notes := r.notes ++ [(0x10000 + i, bs)] }
            else { r with st := stBadSeq }))) r))

/-- The status of a body that is judged at step 4 before the descriptors are read (R238, R240, R244, R289, R290). -/
def earlyStatus (bs : List Byte) : Nat :=
  let h := header bs
  let b := bs.drop 16
  let bad (ok : Bool) : Nat := if ok then stOk else stBadBody
  match h.opcode with
  | 0x10 => if h.chain = 0x19 then stNotSupported else if !gemmBodyOk h.chain b then stBadBody
      else if auxMissing (chainOf h.chain) b then stBadDesc else stOk
  | 0x11 => if h.chain = 0x19 ∨ (chainOf h.chain).pro ≠ .none then stNotSupported else if !convBodyOk h.chain b then stBadBody
      else if auxMissing (chainOf h.chain) b then stBadDesc else stOk
  | 0x12 => if h.chain ≠ 0 ∧ h.chain ≠ 0x19 then stNotSupported else bad (attendBodyOk b)
  | 0x13 => if h.chain ≠ 0 then stNotSupported else if !attendBwdBodyOk b then stBadBody
      else if (byteAt b 28).testBit 1 then stNotSupported else stOk
  | 0x15 => if h.chain ∈ [0x19, 0x1A, 0x1B] then stNotSupported
      else if auxMissing (chainOf h.chain) b then stBadDesc else stOk
  | _ => stOk

/-- The live command with what has been read of it, for the operand readers of the attention commands. -/
def Read4.live (r : Read4) (l : Live) : Live := { l with descs := r.descs, notes := r.notes }

/-- Step 4 of an attention command (R288, R289, R296, R314). -/
def Read4.attention (r : Read4) (d : Die) (q : QIdx) (l : Live) (bwd : Bool) : Read4 :=
  let g (r : Read4) (i : Nat) := r.descs.getD i Desc.none
  let at0 := if bwd then 5 else 4
  let att (r : Read4) : Att := if bwd then attendBwdOf (r.live l) else attendOf (r.live l)
  let r := r.judge (fun r => firstStatus [(!attParDesc (g r (at0 + 1)), stShape), (!lensDesc (g r at0), stShape),
    (!bwd && (byteAt (l.bytes.drop 16) 20).testBit 1 && decide ((g r 1).rank ≠ 0 ∨ (g r 2).rank ≠ 0), stBadDesc)])
  let r := r.andThen (fun r => r.noteTensor d q 0 (g r (at0 + 1)))
  let r := r.judge (fun r => if attParOk (r.live l |>.note 0) (g r 0).dims[0] then stOk else stBadBody)
  let r := r.judge (fun r => if (att r).par.rotates && decide ((att r).freq.rank = 0) then stBadDesc else stOk)
  let r := r.andThen (fun r => r.noteTensor d q 1 (g r at0))
  let r := r.andThen (fun r => let t := (att r).qidx; if t.rank = 0 ∨ t.format ≠ 0x0C then r else r.noteTensor d q 2 t)
  let r := r.andThen (fun r =>
    if (att r).paged then ((att r).entries.map (fun x => x.seq)).eraseDups.foldl (fun (r : Read4) n => r.seq d q n) r else r)
  r.judge (fun r =>
    let a := att r
    attStatus a (g r at0) (if bwd then [(a.out, true), (g r 4, true)] else [(a.out, true)])
      (if bwd then [g r 12, g r 13] else []) (fun n => (r.live l).note (0x1000 + n)))

/-- The gradient of Q has the dims and formats that R290 gives it. -/
def bwdQueryGrad (ds : List Desc) : Nat :=
  let dq := ds.getD 11 Desc.none
  firstStatus [(!dq.hasDims (ds.getD 0 Desc.none).shape, stShape), (!(decide (dq.format = 0x01 ∨ dq.format = 0x02) && !dq.mx), stNotSupported),
    (!(dq.aligned 32), stBadAlign)]

/-- Step 4 of a PAGE command (R296, R317). -/
def Read4.paging (r : Read4) (d : Die) (q : QIdx) (op : Nat) (b : List Byte) (l : Live) : Read4 :=
  let r := (pageSeqs op b).eraseDups.foldl (fun (r : Read4) n => r.seq d q n) r
  let ix (r : Read4) : Desc := r.descs.getD 3 Desc.none
  let r := r.andThen (fun r =>
    if op = 0x30 ∧ (ix r).rank ≠ 0 ∧ (ix r).format = 0x0C ∧ (ix r).hasDims [leAt b 12 4] then r.noteTensor d q 2 (ix r) else r)
  r.judge (fun r => pageStatus op b r.descs (fun n => readSeq ((r.live l).note (0x1000 + n))) (codes4 ((r.live l).note 2)))

/-- Step 4 of a die command: body, descriptors, twin operands and features, then the operation's own rules. -/
def State.read4 (s : State) (d : Die) (q : QIdx) (l : Live) (ev : AccessEvent) : Read4 :=
  let h := header l.bytes
  let op := h.opcode
  let b := l.bytes.drop 16
  let r : Read4 := { s := s, ev := ev, st := earlyStatus l.bytes, loc := 0, descs := [], notes := [] }
  let r := (descFields op b).foldl (fun (r : Read4) f => r.desc d q (leAt b f.1 2) f.2) r
  let r := r.judge (fun r =>
    if r.descs.any Desc.touchesTwin then
      (if engineOf q = .compute then stTwinOperand else if r.s.needsTwinCopy then stNotSupported else stOk)
    else if op = 0x36 ∧ s.fld R.PAIR_STATE 2 0 = 2 ∧ !s.agreed 0 then stNotSupported
    else stOk)
  if op = 0x12 then r.attention d q l false
  else if op = 0x13 then (r.attention d q l true).judge (fun r => bwdQueryGrad r.descs)
  else if 0x30 ≤ op ∧ op ≤ 0x37 then r.paging d q op b l
  else r.judge (fun r =>
    if op = 0x10 then gemmStatus h.chain b r.descs
    else if op = 0x11 then convStatus h.chain b r.descs
    else if op = 0x14 then statsStatus b r.descs
    else if op = 0x15 then eltwiseStatus h.chain b r.descs
    else if op = 0x16 then classifyStatus b r.descs
    else if 0x20 ≤ op ∧ op ≤ 0x23 then copyStatus op b r.descs
    else stOk)

/-- The extra steps that splitting gives a command (R208): those of its tiles for a GEMM or CONV3D (R236); of an ATTEND none unless a step
includes latent expansion (R292), whose groups of queries are the die's choice and free; none of the others. -/
def State.splitsOf (s : State) (d : Die) (l : Live) : Nat :=
  match (header l.bytes).opcode with
  | 0x10 | 0x11 => l.matrixSplits
  | 0x12 => if s.expands d l (attendOf l) then Config.freeAt l.choice 3 else 0
  | _ => 0

/-- The extra steps of the command at place n of queue q are counted (R208). -/
def State.countSplits (s : State) (d : Die) (q : QIdx) (n : Nat) (l : Live) : State :=
  let k := s.splitsOf d l
  if k = 0 then s
  else
    let s := s.modQueue (.die d) q (fun y => y.modLive n (fun l => { l with splits := k }))
    s.modDie d (fun y => { y with weirBlk := y.weirBlk.set 5 (setField y.weirBlk[5] 31 16 (satAt 0xFFFF (field y.weirBlk[5] 31 16 + k))) })

/-- PG_STAMP rises at step 4 of a paged ATTEND, which keeps the value (R306). -/
def State.takeStamp (s : State) (d : Die) (q : QIdx) (n : Nat) (l : Live) : State :=
  if (header l.bytes).opcode = 0x12 ∧ (byteAt (l.bytes.drop 16) 20).testBit 1 then
    let v := (s.stamp d + 1) % 65536
    let s := s.modDie d (fun x => { x with pageBlk := x.pageBlk.set 13 (BitVec.ofNat 32 v) })
    s.modQueue (.die d) q (fun y => y.modLive n (fun l => { l with stamp := v }))
  else s

/-- Step 4 of the command at place n of queue q: it ends with the status found, or becomes eligible, with an index of its own for what the
spec leaves to the die (R233); the first command of a list gives its deadline and makes it a candidate for the URGENT slot (R194, R199,
R200). -/
def State.step4 (s : State) (d : Die) (q : QIdx) (n : Nat) (l : Live) (ev : AccessEvent) : State :=
  let r := s.read4 d q l ev
  if r.st ≠ 0 then
    r.s.modQueue (.die d) q (fun x => x.modLive n (fun l => { l with phase := .ended, status := r.st, location := r.loc }))
  else
    let (k, s) := r.s.draw
    let l' := { l with descs := r.descs, notes := r.notes, choice := k, phase := .eligible }
    let s := s.modQueue (.die d) q (fun x =>
      { x.modLive n (fun _ => l') with listDue := if l.first then (if (header l.bytes).dueValid then l.dueBy else none) else x.listDue })
    let s := (s.takeStamp d q n l').countSplits d q n l'
    s.grantSlot

/-- Step 4 of a PANEL command (R341, R347, R348). -/
def State.panelStep4 (s : State) (q : Fin 4) (n : Nat) (l : Live) : State :=
  if 0x800000 < s.workEnd l.bytes then
    s.modPanel q n (fun l => { l with phase := .ended, status := stMemRange })
  else if byteAt l.bytes 0 ≠ 0 ∧ s.panelRefusal true l.bytes ≠ 0 then s.refusePanel q n (s.panelRefusal true l.bytes)
  else if s.panelWaits l.bytes then s.panelStall q n
  else s.modPanel q n (fun l => { l with phase := .eligible })

/-- The first command of a queue that stands before step 4, with its place. -/
def Queue.atStep4 (q : Queue) : Option (Nat × Live) :=
  (q.live.zipIdx.find? (fun p => decide (p.1.phase = .atDesc))).map (fun p => (p.2, p.1))

/-- DESCRIPTOR_READ (R147, R179, R194). -/
def execDescriptorRead (fn : Fn) (q : Reader QIdx) (s : State) : Host.Outcome State Fault Refusal :=
  .next (if !s.fnRuns fn then s
    else match (s.queue fn q.who).atStep4 with
    | none => s
    | some (n, l) => match fn with
      | .die d => s.step4 d q.who n l q.met
      | .pf => s.panelStep4 (pfIdx q.who) n l)

/-! ### NOP (R162) -/

/-- NOP does no work: its execution ends at once. -/
def execNop (fn : Fn) (q : QIdx) (s : State) : Host.Outcome State Fault Refusal :=
  .next (match fn with
    | .die d => (match s.startable d q 0x00 with
      | some (n, _) => (s.beginExec d q n).endExec d q n stOk 0
      | none => s)
    | .pf => (match s.panelHead (pfIdx q) with
      | some (n, l) => if s.prilRuns ∧ byteAt l.bytes 0 = 0 then s.modPanel (pfIdx q) n (fun l => { l with phase := .ended }) else s
      | none => s))

/-! ### Step ends (R145-R151, R187, R207, R426) -/

/-- The running command of an engine, with its queue and place. -/
def State.runningAt (s : State) (d : Die) (e : Engine) : Option (QIdx × Nat × Live) :=
  match s.dies[d].engines[engineIdx e].running with
  | none => none
  | some q => (s.dies[d].queues[q].live.zipIdx.find? (fun p => decide (p.1.phase = .running))).map (fun p => (q, p.2, p.1))

/-- Runs of bytes that a command reaches by its tensors, or, of a PAGE command, has moved. -/
def State.reaches (s : State) (d : Die) (q : QIdx) (l : Live) : List (Nat × Nat) :=
  l.descs.flatMap Desc.spans
    ++ (if engineOf q = .page then s.dies[d].page.moved.flatMap (fun m => [(m.1, m.2.2), (m.2.1, m.2.2)]) else [])

/-- An access of die d to device address a goes over its link k: 3 is the pair data port, its own or another die's (R20, R21). -/
def crosses (d : Die) (k : Fin 4) (a : Nat) : Bool :=
  let e : Die := Fin.ofNat 4 ((a - 0x800000000000) / 2 ^ 44)
  decide (0x800000000000 ≤ a) && (decide (e ≠ d ∧ linkTo d e = k) || (decide (0xC00000000000 ≤ a) && decide (k = 3)))

/-- The runs of the command that a link which is down cuts off (R145). -/
def State.cutOff (s : State) (d : Die) (q : QIdx) (l : Live) (k : Fin 4) : List (Nat × Nat) :=
  (s.reaches d q l).filter (fun p => decide (p.2 ≠ 0) && crosses d k p.1
    && (match s.routeFn (.die d) (twinAllowed (.die d) q) p.1 with | .error e => decide (e = stLinkDown) | .ok _ => false))

/-- The unit of address a, met unreadable, makes every unit poisoned that the PAGE command moved bytes of it to (R151). -/
def State.spoilMoved (s : State) (d : Die) (a : Nat) : State :=
  let v := pageView d
  let unit (b : Nat) : Option (Nat × Nat) := match s.routeFn v.fn v.tw b with
    | .ok (.die e o) => some (e.val, unitOf o)
    | _ => none
  s.dies[d].page.moved.foldl (fun (s : State) m =>
    (List.range m.2.2).foldl (fun (s : State) i => if unit (m.1 + i) = unit a then s.spoilByte v (m.2.1 + i) else s) s) s

/-- An error of a core's arrays or staging buffers: the command ends, and the address in the log is open, since the spec gives none (R147,
R149). -/
def State.coreError (s : State) (d : Die) (q : QIdx) (n : Nat) (loc : Word) : State :=
  if engineOf q ≠ .compute then s
  else
    let (k, s) := s.draw
    ((s.logMemError d 1 (Config.freeNat k % 2 ^ 48) loc (queueRequester (.die d) q) false).reportUe d loc).cut d q n stMemUe loc

/-- A fault of the running step that ends its command (R145, R146, R147, R151, R426). -/
def State.stepFault (s : State) (d : Die) (q : QIdx) (n : Nat) (l : Live) (ev : AccessEvent) : State :=
  let who := queueRequester (.die d) q
  let v := viewOf (.die d) q
  match ev with
  | .none => s
  | .corrected _ => s.eccAt d v.tw ev
  | .uncorrectable a =>
    let s := s.eccAt d v.tw ev
    match s.poisonRead v [(a, 1)] with
    | none => s
    | some f =>
      -- a transfer carries the poison to its destination (R151)
      if engineOf q = .copy then s.transfer d q n (s.copyWork v (header l.bytes).opcode l)
      else
        let s := if engineOf q = .page then s.spoilMoved d a else s
        let (loc, s) := s.raiseMem (.die d) v.tw who false f
        s.cut d q n stMemUe loc
  | .arrayError core array => s.coreError d q n (s.locCore d.val core 0 array)
  | .stagingError core part => s.coreError d q n (s.locCore d.val core 3 part)
  | .linkLost k =>
    let runs := s.cutOff d q l k
    if runs.isEmpty then s
    else
      let (m, s) := s.draw
      let p := runs.getD (Config.freeAt m 0 % runs.length) (0, 0)
      let (loc, s) := s.raiseMem (.die d) v.tw who (decide (Config.freeAt m 1 % 2 = 1))
        { status := stLinkDown, kind := 4, addr := p.1 + Config.freeAt m 2 % p.2 }
      s.cut d q n stLinkDown loc
  | .hostAbort a => match s.meetRead d who v.tw [(a, 1)] ev with
    | (some (st, loc), s) => s.cut d q n st loc
    | (none, s) => s
  | .hostPoison a => match s.meetRead d who v.tw [(a, 1)] ev with
    | (some (st, loc), s) => s.cut d q n st loc
    | (none, s) => s

/-- The fewest steps that a command has (R207): k-blocks, key blocks, runs of 4,096 elements on 128 cores (R264), units of 4 KiB. -/
def State.fewestSteps (s : State) (d : Die) (q : QIdx) (l : Live) : Nat :=
  let count := (l.descs.getD 0 Desc.none).count
  max 1 (match (header l.bytes).opcode with
  | 0x10 | 0x11 => l.matrixSteps
  | 0x12 => s.attendSteps d l (attendOf l)
  | 0x13 => s.attendSteps d l (attendBwdOf l)
  | 0x14 | 0x15 | 0x16 => ceilDiv count (4096 * 128)
  | 0x20 | 0x21 | 0x22 | 0x23 => ceilDiv ((l.descs.getD 0 Desc.none).spans.map (·.2)).sum 4096
  | _ => if engineOf q = .page then ceilDiv (s.dies[d].page.moved.map (fun m => m.2.2)).sum 4096 else 1)

/-- The end of the running command's last step: its execution is over, unless a step repeats after a fill (R207, R309). -/
def State.lastStep (s : State) (d : Die) (q : QIdx) (n : Nat) (l : Live) : State :=
  if l.stall = 0 then (s.mixWords l.undo).endExec d q n stOk 0
  else if l.stall = 2 then s.attendRun d q n l
  else s

/-- A step of the command at place n of queue q has ended (R185, R207, R209): it is the last one where the row says so, once the command has
as many as R207 gives it; a command of a halted queue is cut; else the step is counted, and an eligible command of the slot makes the
command yield. -/
def State.stepDone (s : State) (d : Die) (q : QIdx) (n : Nat) (l : Live) (last : Bool) : State :=
  if l.cancel then s.cut d q n stCancelled 0
  else if (last && decide (s.fewestSteps d q l ≤ l.steps + 1)) || decide (l.stall = 2) then s.lastStep d q n l
  else
    let e := engineOf q
    let b := s.urgentEligible d e
    (s.modQueue (.die d) q (fun x => x.modLive n (fun l => { l with steps := l.steps + 1 }))).modDie d (fun x =>
      { x with engines := x.engines.set (engineIdx e) { x.engines[engineIdx e] with boundary := b } })

/-- A step ends on engine e of die d: a fault ends the command; the last step ends its execution; then the die acts on the messages
that waited for the boundary, and a command of a stale COMPUTE or COPY queue stops (R34, R187, R207). What the dies have posted to the
Prilliner arrives (R417). -/
def State.stepEnd (s : State) (d : Die) (e : Engine) (last : Bool) (ev : AccessEvent) : State :=
  match s.runningAt d e with
  | none => s
  | some (q, n, l) =>
    let s := s.stepFault d q n l ev
    let s := match s.runningAt d e with
      | some (_, _, m) => s.stepDone d q n m last
      | none => s
    let atBoundary (x : Engine) : Bool := decide (x = e) || s.dies[d].engines[engineIdx x].running.isNone
    let s := s.actMessages d atBoundary s.dies[d].msgs.length
    let s := if s.dies[d].queues[q].stale && decide (engineOf q ≠ .page) then s.cutStale d q true else s
    s.deliverPosted.settle (.die d)

/-- EXECUTION_STEP_END (R207). The Prilliner's commands have no steps of this kind (R346). -/
def execExecutionStepEnd (fn : Fn) (eng : Engine) (last : Bool) (ev : AccessEvent) (s : State) : Host.Outcome State Fault Refusal :=
  .next (match fn with
    | .die d => if s.dies[d].power = 0 ∧ eng ≠ .panel then s.stepEnd d eng last ev else s
    | .pf => s)

end Sys2Proof.Machine
end

