-- ==== Sys2Proof/Machine/Flags.lean ====
section
/-!
DEFINITION. Status fields that the hardware computes from other state when they are read: the alert summary, queue counts, thermal,
panel, energy and link status of the management map; the same of a function's BAR0; and what a read of a management register
returns (R6, R9, R76, R79, R86).
-/
namespace Sys2Proof.Machine

open Sys2Proof

/-- A list of bits as a number, bit 0 first. -/
def bitsOf (bs : List Bool) : Nat := bs.foldr (fun b n => b2n b + 2 * n) 0

/-! ### The management map -/

/-- Block b of the map has an alert cause (R86): ALERT_PORT, SUP_ALERT or PWR_ALERT, THM_ALERT, PNL_ALERT, HV_ALERT, PAIR_ALERT,
SAF_ALERT, ALERT_RAS. -/
def State.blockAlert (s : State) (b : Nat) : Bool :=
  match b with
  | 0 => decide (s.reg R.ALERT_PORT ≠ 0)
  | 1 => decide (s.reg R.SUP_ALERT ≠ 0) || decide (s.reg R.PWR_ALERT ≠ 0)
  | 2 => decide (s.reg R.THM_ALERT ≠ 0)
  | 3 => decide (s.reg R.PNL_ALERT ≠ 0)
  | 4 => decide (s.reg R.HV_ALERT ≠ 0)
  | 5 => decide (s.reg R.PAIR_ALERT ≠ 0)
  | 6 => decide (s.reg R.SAF_ALERT ≠ 0)
  | 7 => decide (s.reg R.ALERT_RAS ≠ 0)
  | _ => false

/-- ALERT_SRC.block (R86). -/
def State.alertBlocks (s : State) : Nat := bitsOf ((List.range 8).map s.blockAlert)

/-- ALERT_SRC: the blocks and the stored urgent bit. -/
def State.alertSrc (s : State) : Word := setField (s.reg R.ALERT_SRC) 7 0 s.alertBlocks

/-- MG_PORT_STAT: pending_writes counts the queue (R77). -/
def State.portStat (s : State) : Word := setField (s.reg R.MG_PORT_STAT) 23 16 s.port.queue.length

/-- THM_HOTTEST: the hottest junction channel's index bits 7:0 and its effective code. -/
def State.thmHottest (s : State) : Word :=
  let (c, e) := s.hottest 0 256
  BitVec.ofNat 32 (c % 256 + e % 1024 * 65536)

/-- PNL_STATUS: park_needed while PNL_UNBALANCED is not 0. -/
def State.pnlStatus (s : State) : Word := setBit (s.reg R.PNL_STATUS) 6 (decide (s.unbalanced ≠ 0))

/-- PNL_SLOTS: the active slots and their count. -/
def State.pnlSlots (s : State) : Word :=
  let a := (List.range 16).map (fun n => (s.slotAt n).active)
  BitVec.ofNat 32 (bitsOf a + a.count true * 65536)

/-- PNL_QUEUE_STATUS: state, halted and stale of the PANEL queues. -/
def State.pnlQueues (s : State) : Word :=
  let qs := s.pf.queues.toList
  BitVec.ofNat 32 (qs.foldr (fun q n => q.state % 4 + 4 * n) 0 + bitsOf (qs.map (fun q => decide (q.state = 2))) * 256
    + bitsOf (qs.map (fun q => q.stale)) * 4096)

/-- An amount of pJ over den in mJ, saturating at 65,535; which way the spec rounds is not stated (assumption log 7). -/
def milliJoule (num den : Nat) : Nat :=
  let d := den * 10 ^ 9
  satAt 65535 (num / d + b2n (Config.energyUp && decide (num % d ≠ 0)))

/-- HV_ENERGY: E_avail and the commitments in mJ (R363, R365). -/
def State.hvEnergy (s : State) : Word :=
  let (n, d) := s.availFrac
  BitVec.ofNat 32 (milliJoule n d + milliJoule s.committed s.scanRate * 65536)

/-- PAIR_LINKS: the channel, the data ports up and parked (R380), and the retrains. A port is parked only beside a peer, so that none reads
as parked before a first frame has come (DEDUCED, assumption log 63). -/
def State.pairLinks (s : State) : Word :=
  let up := match s.pair.last with | some _ => decide (s.now ≤ s.pair.lastAt + 4 * mtTicks) | none => false
  let ports := s.dies.toList.map (fun x => x.linkUp[(3 : Fin 4)])
  let parked := (List.finRange 4).map (fun d : Die => s.pair.last.isSome && !s.portAwake d)
  setField (s.reg R.PAIR_LINKS) 8 0 (b2n up + 2 * bitsOf ports + 32 * bitsOf parked)

/-- HV_STATUS: rail_ok follows the sequences (R355, R356). -/
def State.hvStatus (s : State) : Word :=
  setField (s.reg R.HV_STATUS) 8 4 (bitsOf ((List.range 5).map s.railOk))

/-- What a read of management register a returns, apart from the capture of RAS_NOW_LO (R76, R79). -/
def State.mgmtRead (s : State) (a : Nat) : Word :=
  if isReserved a then 0
  else if a = R.MG_PORT_STAT then s.portStat
  else if a = R.ALERT_SRC then s.alertSrc
  else if a = R.THM_HOTTEST then s.thmHottest
  else if a = R.THM_CH_DATA then s.chData
  else if a = R.PNL_STATUS then s.pnlStatus
  else if a = R.PNL_SLOTS then s.pnlSlots
  else if a = R.PNL_UNBALANCED then BitVec.ofNat 32 s.unbalanced
  else if a = R.PNL_QUEUE_STATUS then s.pnlQueues
  else if a = R.HV_ENERGY then s.hvEnergy
  else if a = R.HV_EMODEL_DATA then s.hv.emodel[s.fld R.HV_EMODEL_SEL 6 0]?.getD 0
  else if a = R.PAIR_LINKS then s.pairLinks
  else if a = R.HV_STATUS then s.hvStatus
  else if a = R.RAS_LINE_PERIOD then s.linePeriodReg
  else if a = R.RAS_NOW_LO then s.trayRaster.setWidth 32
  else if a = R.RAS_NOW_HI then (s.ras.capture >>> 32).setWidth 32
  else s.reg a

/-- A read frame's access to register a: the value, and the capture that a read of RAS_NOW_LO makes. -/
def State.readReg (s : State) (a : Nat) : Word × State :=
  (s.mgmtRead a, if a = R.RAS_NOW_LO then s.modRas (fun r => { r with capture := s.trayRaster }) else s)

/-- The words of a burst read from one snapshot (R79); RAS_NOW_HI after RAS_NOW_LO sees the new capture. -/
def State.readRegs (s : State) (a : Nat) : Nat → List Word × State
  | 0 => ([], s)
  | n + 1 =>
    let (w, s) := s.readReg a
    let (ws, s) := s.readRegs (a + 1) n
    (w :: ws, s)

/-- The RC fields of register a are cleared by a good read (R80): each returns to its reset value (R8). -/
def State.clearRc (s : State) (a : Nat) : State :=
  match regSpec a with
  | some r =>
    if r.rc = 0 then s
    else s.setReg a ((s.reg a &&& ~~~ BitVec.ofNat 32 r.rc) ||| (r.reset &&& BitVec.ofNat 32 r.rc))
  | none => s

/-- The RC fields of n registers from a. -/
def State.clearRcs (s : State) (a : Nat) : Nat → State
  | 0 => s
  | n + 1 => (s.clearRc a).clearRcs (a + 1) n

/-! ### BAR0 -/

/-- CMD_QIDLE of a die: DISABLED, or RUNNING with Q_HEAD = Q_TAIL. -/
def DieSt.qIdle (x : DieSt) : Word :=
  BitVec.ofNat 32 (bitsOf (x.queues.toList.map (fun q => decide (q.state = 0) || (decide (q.state = 1) && decide (q.head = q.tail)))))

/-- WEIR_SLOT: held, the dies with a member list, and a holder without a deadline. -/
def State.weirSlot (s : State) : Word :=
  let members := s.dies.toList.map (fun x => x.queues.any (fun q => q.inSlot))
  BitVec.ofNat 32 (b2n s.slot.held + 2 * bitsOf members + 32 * b2n (s.slot.held && s.slot.due.isNone))

/-- MEM_LINK_STATUS: the links' state, and the stored down_events. -/
def DieSt.linkStatus (x : DieSt) : Word := setField x.memBlk[7] 3 0 (bitsOf x.linkUp.toList)

end Sys2Proof.Machine
end

