-- ==== Sys2Proof/Machine/Registers.lean ====
section
/-!
DEFINITION. Register writes by address: what a queued or immediate write of the management map does when it is applied (R6, R77,
R78, R88-R92), what a write or a read of a BAR0 register does (R8, R215, R216, R419, R430), COMMIT and LOCK.
-/
namespace Sys2Proof.Machine

open Sys2Proof

/-! ### COMMIT and LOCK (R89-R92) -/

/-- CFG_DIGEST over the D registers in ascending address order (R91). -/
def State.digestNow (s : State) : DWord :=
  crc64 (regMap.flatMap (fun r => if r.digest then beBytes 2 r.addr ++ beBytes 4 (s.reg r.addr).toNat else []))

/-- COMMIT applied at its boundary (R90): the epoch, the digest, dirty, the message to every die, quiesce_pending of the powered
dies; the PANEL queues go stale with it (R346). -/
def State.commitConfig (s : State) : State :=
  let e : Word := if s.reg R.CFG_EPOCH = 0xFFFFFFFF#32 then 1 else s.reg R.CFG_EPOCH + 1
  let g := s.digestNow
  let s := ((s.setReg R.CFG_EPOCH e).setReg R.CFG_DIGEST_LO (g.setWidth 32)).setReg R.CFG_DIGEST_HI ((g >>> 32).setWidth 32)
  let s := s.putBit R.CFG_STATUS 1 false
  let s := (List.finRange 4).foldl (fun (s : State) (d : Die) =>
    let s := s.bridgeSend d (.epoch e)
    if s.dies[d].power < 5 then s.putBit R.CFG_STATUS (4 + d.val) true else s) s
  s.stalePanel

/-- COMMIT (R90). -/
def execCommit (s : State) : Host.Outcome State Fault Refusal := .next (if s.prilRuns then s.commitConfig else s)

/-- LOCK accepted: lock_pending sets (R89). -/
def State.acceptLock (s : State) : State := s.putBit R.CFG_STATUS 2 true

/-- LOCK applied at its boundary: locked sets, and nothing is pending any more (R89). -/
def State.applyLock (s : State) : State := (s.putBit R.CFG_STATUS 0 true).putBit R.CFG_STATUS 2 false

/-- LOCK (R89): `applied` false is the acceptance of the frame, true the boundary that applies it. -/
def execLock (applied : Bool) (s : State) : Host.Outcome State Fault Refusal :=
  .next (if !s.prilRuns then s else if applied then s.applyLock else s.acceptLock)

/-! ### Management registers by address -/

/-- A write to the RW and RWL fields of a register, as its access codes say (R6). -/
def State.writeMasked (s : State) (a : Nat) (val : Word) : State :=
  match regSpec a with
  | some r =>
    let m := BitVec.ofNat 32 r.rw
    s.setReg a ((s.reg a &&& ~~~ m) ||| (val &&& m))
  | none => s

/-- A write to the W1C fields of a register (R6, R88). -/
def State.writeOneClear (s : State) (a : Nat) (val : Word) : State :=
  match regSpec a with
  | some r => s.setReg a (s.reg a &&& ~~~ (val &&& BitVec.ofNat 32 r.w1c))
  | none => s

/-- RAS_CTRL applied (R45, R53, R62): a reserved mode is ignored. -/
def State.writeRasCtrl (s : State) (val : Word) : State :=
  (s.setFld R.RAS_CTRL 4 2 (field val 4 2)).changeMode (field val 1 0)

/-- LOG_SEL written by a frame (R407): the capture waits only while a slot of that record is being written. -/
def State.frameSelectLog (s : State) (i : Nat) : State :=
  if !s.tm.pend.isEmpty && decide (s.nextRecord = i) then
    let (n, s) := s.draw
    s.selectLog i (Config.freeBit n)
  else s.selectLog i false

/-- A write to a D register that changed its value sets CFG_STATUS.dirty (R91). -/
def State.noteDirty (s old : State) (a : Nat) : State :=
  match regSpec a with
  | some r => if r.digest && decide (s.reg a ≠ old.reg a) then s.putBit R.CFG_STATUS 1 true else s
  | none => s

/-- The effect of a write to a register that has an operation of its own; every other register follows its access codes.
`stopOk` holds the results of the stop-line tests of dies that the write raises (R403). -/
def State.writeEffect (s : State) (a : Nat) (val : Word) (stopOk : Die → Bool) : State :=
  if a = R.MG_IMG_CTRL then s.imgCtrl val
  else if a = R.MG_IMG_DATA then s.imageWord val
  else if a = R.CFG_CMD then
    (if field val 15 0 = 0x0C01 then s.commitConfig else if field val 15 0 = 0x0C1C then s.applyLock else s)
  else if a = R.SUP_SAG_WARN ∨ a = R.SUP_SAG_RESET then s.writeSag a val
  else if a = R.PWR_CTRL then s.writePwrCtrl val stopOk
  else if a = R.PWR_WAKE_EN then s.writeWakeEn val
  else if a = R.PWR_LIMIT ∨ a = R.PWR_DIE_LIMIT then s.writePwrLimit a val
  else if a = R.THM_THROTTLE ∨ a = R.THM_TRIP ∨ a = R.THM_ROR then s.writeThreshold a val
  else if a = R.THM_SAMPLE then (if bitAt val 0 then { s with thm := { s.thm with sampleReq := true } } else s)
  else if a = R.THM_REARM then s.rearm (field val 15 0)
  else if a = R.PNL_CTRL then s.writePanelCtrl val
  else if a = R.PNL_SIZE then s.writePanelGeometry a val 0x7FF1FFF#32
  else if a = R.PNL_SCAN then s.writePanelGeometry a val 0x3F7F#32
  else if a = R.PNL_GATE_TIMING then s.writePanelGeometry a val 0xFF1FF3#32
  else if a = R.PNL_SOURCE_TIMING then s.writePanelGeometry a val 0xFFFF0F#32
  else if R.PNL_BAND0 ≤ a ∧ a < R.PNL_BAND0 + 16 then s.writeBand (a - R.PNL_BAND0) val
  else if a = R.PNL_CMD then
    (if field val 15 0 = 0x0501 then s.parkAll else if field val 15 0 = 0x0502 then s.stopAll else s)
  else if a = R.HV_CTRL then s.writeHvCtrl val
  else if a = R.HV_VPOS ∨ a = R.HV_VGH ∨ a = R.HV_VGL ∨ a = R.HV_VCOM then s.writeRailCode a val
  else if a = R.HV_RES_CAP then s.writeResCap val
  else if a = R.HV_REARM then s.hvRearm (field val 15 0)
  else if a = R.HV_KICKBACK then s.writeKickback (field val 3 0) (bitAt val 7)
  else if a = R.HV_EMODEL_DATA then s.writeEmodel val
  else if a = R.HV_TRIPCARD then s.writeTripcard val
  else if a = R.PAIR_CTRL then s.writePairCtrl val
  else if a = R.PAIR_CMD then s.pairCmd val
  else if a = R.SAF_CMD then s.safCmd (field val 15 0)
  else if a = R.SAF_WDT then s.writeWdt val
  else if a = R.LOG_SEL then s.frameSelectLog (field val 10 0)
  else if a = R.RAS_CTRL then s.writeRasCtrl val
  else if a = R.RAS_PACE_PERIOD then s.changePace val.toNat (s.fld R.RAS_PACE_LINES 11 0)
  else if a = R.RAS_PACE_LINES then s.changePace (s.reg R.RAS_PACE_PERIOD).toNat (field val 11 0)
  else if a = R.RAS_CMD then
    (if field val 15 0 = 1 then s.setFrame else if field val 15 0 = 2 then s.acceptGeometry else s)
  else (s.writeMasked a val).writeOneClear a val

/-- A write of a management register is applied (R77, R78, R91). After the lock a register with RWL fields ignores writes (R6):
REGISTER_WRITE meets this, and so does a word that follows the LOCK of its own BURST_WRITE, whose frame R89 lets pass (DEDUCED,
assumption log 48). -/
def State.applyWrite (s : State) (a : Nat) (val : Word) (stopOk : Die → Bool) : State :=
  if s.bit R.CFG_STATUS 0 && isLockable a then s else (s.writeEffect a val stopOk).noteDirty s a

/-! ### BAR0 writes (R6, R9, R419, R430) -/

/-- A write at offset o of the link block. -/
def State.linkWrite (s : State) (d : Die) (o : Nat) (val : Word) : State :=
  if o = 0x00 then s.modDie d (fun x => { x with linkBlk := x.linkBlk.set 0 (val &&& 3#32) })
  else if o = 0x08 then s.writeAperture d false val
  else if o = 0x0C then s.writeAperture d true val
  else if o = 0x20 then s.modDie d (fun x => { x with linkBlk := x.linkBlk.set 8 (x.linkBlk[8] &&& ~~~ (val &&& 0x1FF#32)) })
  else if o = 0x24 then s.modDie d (fun x => { x with linkBlk := x.linkBlk.set 9 (val &&& 0x1FF#32) })
  else if o = 0x28 then s.modDie d (fun x => { x with linkBlk := x.linkBlk.set 10 (val &&& 0x7FF#32) })
  else s

/-- A write at offset o of the memory block. -/
def State.memWrite (s : State) (d : Die) (o : Nat) (val : Word) : State :=
  if o = 0x00 then s.modDie d (fun x => { x with memBlk := x.memBlk.set 0 (x.memBlk[0] &&& ~~~ (val &&& 0x3F#32)) })
  else if o = 0x20 then s.writePool d false val
  else if o = 0x24 then s.writePool d true val
  else if o = 0x28 then s.writeWatermark d val
  else if o = 0x34 then s.modDie d (fun x => { x with memBlk := x.memBlk.set 13 (val &&& 0xFF#32) })
  else if o = 0x38 then s.modDie d (fun x => { x with memBlk := x.memBlk.set 14 (setBit x.memBlk[14] 0 (bitAt val 0)) })
  else if o = 0x3C then s.modDie d (fun x => { x with memBlk := x.memBlk.set 15 (x.memBlk[15] &&& ~~~ (val &&& 0x1F#32)) })
  else s

/-- Writable bits of the page registers 0x08 to 0x28 (R324), by word. -/
def pageMask (i : Nat) : Word :=
  match i with
  | 2 => 0xFFFFF000#32
  | 3 => 0xFFFF#32
  | 4 => 0xFFFFF000#32
  | 5 => 0xFFFF#32
  | 6 => 0xFFFF#32
  | 7 => 0xFFFF#32
  | 8 => 0xFFE00000#32
  | 9 => 0xFFFF#32
  | 10 => 0x1FFFFFF#32
  | _ => 0

/-- A write at offset o of the page block (R324). -/
def State.pageRegWrite (s : State) (d : Die) (o : Nat) (val : Word) : State :=
  if o = 0x00 then s.writePageCtrl d val
  else if 0x08 ≤ o ∧ o ≤ 0x28 then
    (if bitAt s.dies[d].pageBlk[0] 0 then s.pageAlert d 4
     else s.modDie d (fun x => { x with pageBlk := x.pageBlk.setIfInBounds (o / 4) (val &&& pageMask (o / 4)) }))
  else if o = 0x3C then s.modDie d (fun x => { x with pageBlk := x.pageBlk.set 15 (x.pageBlk[15] &&& ~~~ (val &&& 0x1F#32)) })
  else s

/-- The object that offset o of the sync window names on die d (R215): local, or a global object homed there. -/
def syncObj (d : Die) (o : Nat) : Nat := if o < 0x1000 then o / 16 else 256 + 4 * ((o - 0x1000) / 16) + d.val

/-- A value half of waiter w is written; an armed waiter that it satisfies fires (R216). -/
def State.writeWaitValue (s : State) (d : Die) (w : Fin 32) (high : Bool) (val : Word) : State :=
  let v := s.dies[d].waiters[w].value.toNat
  let v := if high then v % 2 ^ 32 + val.toNat * 2 ^ 32 else v / 2 ^ 32 * 2 ^ 32 + val.toNat
  (s.modDie d (fun x => { x with waiters := x.waiters.set w { x.waiters[w] with value := BitVec.ofNat 64 v } })).fireWaiter d w

/-- A 32-bit write at offset o of the sync window (R215, R216). -/
def State.syncWrite (s : State) (d : Die) (o : Nat) (val : Word) : State :=
  if o < 0x1100 then
    let obj := syncObj d o
    if o % 16 = 8 then s.modDie d (fun x => { x with sigLo := SMap.set 0 x.sigLo obj val })
    else if o % 16 = 12 then
      s.hostSignal d obj (BitVec.ofNat 64 (val.toNat * 2 ^ 32 + (SMap.get 0 s.dies[d].sigLo obj).toNat))
    else s
  else if 0x1200 ≤ o ∧ o < 0x1400 then
    let w : Fin 32 := Fin.ofNat 32 ((o - 0x1200) / 16)
    if o % 16 = 0 then s.writeWaiter d w val
    else if o % 16 = 4 then s.writeWaitValue d w false val
    else if o % 16 = 8 then s.writeWaitValue d w true val
    else s
  else s

/-- An aligned 32-bit write at offset o of die d's BAR0 (R419). -/
def State.dieBar0Write (s : State) (d : Die) (o : Nat) (val : Word) : State :=
  if o < 0x1000 then s.linkWrite d o val
  else if o = 0x1014 then s.writeDescBase d false val
  else if o = 0x1018 then s.writeDescBase d true val
  else if o = 0x103C then s.modDie d (fun x => { x with cmdBlk := x.cmdBlk.set 15 (x.cmdBlk[15] &&& ~~~ (val &&& 1#32)) })
  else if 0x2000 ≤ o ∧ o < 0x2800 then s.queueWrite (.die d) (Fin.ofNat 32 ((o - 0x2000) / 64)) (o % 64) val
  else if 0x3000 ≤ o ∧ o < 0x4000 then s.memWrite d (o - 0x3000) val
  else if o = 0x4000 then s.modDie d (fun x => { x with weirBlk := x.weirBlk.set 0 (val &&& 0xFF#32) })
  else if o = 0x4018 then s.modDie d (fun x => { x with weirBlk := x.weirBlk.set 6 (x.weirBlk[6] &&& ~~~ (val &&& 3#32)) })
  else if 0x5000 ≤ o ∧ o < 0x6000 then s.pageRegWrite d (o - 0x5000) val
  else if 0x10000 ≤ o ∧ o < 0x11400 then s.syncWrite d (o - 0x10000) val
  else if 0x20000 ≤ o ∧ o < 0x40000 then
    (if o % 0x1000 = 0 then s.ring (.die d) (Fin.ofNat 32 ((o - 0x20000) / 0x1000)) val 4 else s)
  else if 0x40000 ≤ o ∧ o < 0x48000 then s.writeMsix (.die d) ((o - 0x40000) / 4) val
  else s

/-- A write of a BAR0 register on arrival (R6); an unaligned one is ignored (R419). -/
def State.bar0Write (s : State) (fn : Fn) (o : Nat) (val : Word) : State :=
  if o % 4 ≠ 0 then s
  else match fn with
    | .die d => s.dieBar0Write d o val
    | .pf => s.pfBar0Write o val

/-- REGISTER_WRITE (R6, R77): in the management map the write is applied; in BAR0 it acts on arrival. The stop-line tests of dies
that a PWR_CTRL value raises have free results here (assumption log 7). -/
def execRegisterWrite (sp : RegSpace) (addr : Nat) (val : Word) (s : State) : Host.Outcome State Fault Refusal :=
  .next (match sp with
    | .mgmt =>
      if !s.prilRuns then s
      else
        let (n, s) := s.draw
        s.applyWrite addr val (fun d => decide (Config.freeAt n d.val % 2 = 0))
    | .bar0 fn => if s.reachable fn then s.bar0Write fn addr val else s.portUr fn)

/-! ### BAR0 reads (R8, R419, R430) -/

/-- A read at offset o of the link block; HL_ERR clears (R8). -/
def State.linkRead (s : State) (d : Die) (o : Nat) : Word × State :=
  let w := s.dies[d].linkBlk[o / 4]?.getD 0
  (w, if o = 0x2C then s.modDie d (fun x => { x with linkBlk := x.linkBlk.set 11 0 }) else s)

/-- A read at offset o of the command block; CMD_RASTER_LO captures (R59). -/
def State.cmdRead (s : State) (d : Die) (o : Nat) : Word × State :=
  let x := s.dies[d]
  if o = 0x00 then (BitVec.ofNat 32 (d.val + 4 * s.role), s)
  else if o = 0x08 then ((Config.dieSerial d).setWidth 32, s)
  else if o = 0x0C then ((Config.dieSerial d >>> 32).setWidth 32, s)
  else if o = 0x20 then
    let s := s.captureRaster d
    (s.dies[d].rasCap.setWidth 32, s)
  else if o = 0x24 then ((x.rasCap >>> 32).setWidth 32, s)
  else if o = 0x28 then (BitVec.ofNat 32 (b2n x.rasCapValid + x.rasCapGen % 65536 * 65536), s)
  else if o = 0x38 then (x.qIdle, s)
  else (x.cmdBlk[o / 4]?.getD 0, s)

/-- A read at offset o of the memory block; MEM_CE_COUNT, MEM_UE_COUNT and down_events clear (R8). -/
def State.memRead (s : State) (d : Die) (o : Nat) : Word × State :=
  let x := s.dies[d]
  if o = 0x14 then (x.memBlk[5], s.modDie d (fun x => { x with memBlk := x.memBlk.set 5 0 }))
  else if o = 0x18 then (x.memBlk[6], s.modDie d (fun x => { x with memBlk := x.memBlk.set 6 0 }))
  else if o = 0x1C then (x.linkStatus, s.modDie d (fun x => { x with memBlk := x.memBlk.set 7 (setField x.memBlk[7] 15 8 0) }))
  else (x.memBlk[o / 4]?.getD 0, s)

/-- A read at offset o of the Weir block; WEIR_MISS and WEIR_PREEMPT clear, WEIR_SLOT_DUE_LO captures (R8). -/
def State.weirRead (s : State) (d : Die) (o : Nat) : Word × State :=
  let x := s.dies[d]
  if o = 0x04 then (s.weirSlot, s)
  else if o = 0x08 then
    let due := s.slot.due.getD 0
    (due.setWidth 32, s.modDie d (fun x => { x with slotCap := due }))
  else if o = 0x0C then ((x.slotCap >>> 32).setWidth 32, s)
  else if o = 0x10 then (x.weirBlk[4], s.modDie d (fun x => { x with weirBlk := x.weirBlk.set 4 0 }))
  else if o = 0x14 then (x.weirBlk[5], s.modDie d (fun x => { x with weirBlk := x.weirBlk.set 5 0 }))
  else (x.weirBlk[o / 4]?.getD 0, s)

/-- A read at offset o of the page block; PG_MISS clears (R8). -/
def State.pageRead (s : State) (d : Die) (o : Nat) : Word × State :=
  let w := s.dies[d].pageBlk[o / 4]?.getD 0
  (w, if o = 0x38 then s.modDie d (fun x => { x with pageBlk := x.pageBlk.set 14 0 }) else s)

/-- A read of waiter w's registers (R216). -/
def Waiter.read (w : Waiter) (o : Nat) : Word :=
  if o = 0 then BitVec.ofNat 32 (w.obj % 512 + 512 * (w.vector % 2048) + 2 ^ 30 * b2n w.fired + 2 ^ 31 * b2n w.armed)
  else if o = 4 then w.value.setWidth 32
  else if o = 8 then (w.value >>> 32).setWidth 32
  else 0

/-- A read at offset o of the sync window (R215): SYNC_VAL_LO captures; SYNC_VAL_HI returns the high half of its object's last capture,
at first the reset value. -/
def State.syncRead (s : State) (d : Die) (o : Nat) : Word × State :=
  if o < 0x1100 then
    let obj := syncObj d o
    if o % 16 = 0 then (((s.ownObj d obj).getD 0).setWidth 32, s.captureObj d obj)
    else if o % 16 = 4 then ((SMap.get 0 s.dies[d].objCap obj >>> 32).setWidth 32, s)
    else (0, s)
  else if 0x1200 ≤ o ∧ o < 0x1400 then (s.dies[d].waiters[(Fin.ofNat 32 ((o - 0x1200) / 16) : Fin 32)].read (o % 16), s)
  else (0, s)

/-- An aligned 32-bit read at offset o of die d's BAR0. -/
def State.dieBar0Read (s : State) (d : Die) (o : Nat) : Word × State :=
  if o < 0x1000 then s.linkRead d o
  else if o < 0x2000 then s.cmdRead d (o - 0x1000)
  else if o < 0x2800 then (s.dies[d].queues[(Fin.ofNat 32 ((o - 0x2000) / 64) : QIdx)].read (o % 64), s)
  else if 0x3000 ≤ o ∧ o < 0x4000 then s.memRead d (o - 0x3000)
  else if 0x4000 ≤ o ∧ o < 0x5000 then s.weirRead d (o - 0x4000)
  else if 0x5000 ≤ o ∧ o < 0x6000 then s.pageRead d (o - 0x5000)
  else if 0x10000 ≤ o ∧ o < 0x11400 then s.syncRead d (o - 0x10000)
  else if 0x20000 ≤ o ∧ o < 0x40000 then
    (if o % 0x1000 = 0 then s.dies[d].queues[(Fin.ofNat 32 ((o - 0x20000) / 0x1000) : QIdx)].tail else 0, s)
  else if 0x40000 ≤ o ∧ o < 0x48000 then (s.readMsix (.die d) ((o - 0x40000) / 4), s)
  else if 0x48000 ≤ o ∧ o < 0x48100 then (s.readPba (.die d) ((o - 0x48000) / 4), s)
  else (0, s)

/-- A 32-bit read of a BAR0 register: the value, and what the read clears or captures. -/
def State.bar0Read (s : State) (fn : Fn) (o : Nat) : Word × State :=
  if o % 4 ≠ 0 then (0, s)
  else match fn with
    | .die d => s.dieBar0Read d o
    | .pf => (s.pfBar0Read o, s)

/-- BAR0_RC_READ (R8): a host read of a BAR0 register, which clears its RC fields. -/
def execBar0RcRead (fn : Fn) (off : Nat) (s : State) : Host.Outcome State Fault Refusal :=
  .next (if s.reachable fn then
      let (w, s) := s.bar0Read fn off
      s.respond (.ok (leBytes 4 w.toNat))
    else (s.portUr fn).respond (if s.switchOn then .ur else .none))

end Sys2Proof.Machine
end

