-- ==== Sys2Proof/Machine/Port.lean ====
section
/-!
DEFINITION. The management port: frames with their CRC, status and response (R68-R84), the pending-write queue, discarded frames,
and the mt boundary with ALERT_N (R30-R32, R77, R86, R87, R425, R431).
-/
namespace Sys2Proof.Machine

open Sys2Proof

/-! ### Frames -/

/-- The port answers frames: MG_STATE has left BOOT, the tray is not in Small hours, the Prilliner has power, and no restart into
SAFE is under way (R84, R396). -/
def State.answers (s : State) : Bool := decide (s.fld R.MG_STATE 2 0 ≠ 0) && s.coresAlive

/-- Status codes (R73). -/
abbrev pOk : Nat := 0
abbrev pCrcErr : Nat := 1
abbrev pBadAddr : Nat := 2
abbrev pLocked : Nat := 3
abbrev pBadLen : Nat := 4
abbrev pBusy : Nat := 5
abbrev pRecovery : Nat := 6
abbrev pNoData : Nat := 7

/-- The bytes of a response: status, words, CRC started from the request's CRC byte (R69, R71). -/
def responseBytes (st : Nat) (body : List Byte) (crc : Byte) : List Byte :=
  let r := BitVec.ofNat 8 st :: body
  r ++ [crc8 crc r]

/-- The words of a response, most significant byte first (R68). -/
def wordBytes (ws : List Word) : List Byte := ws.flatMap (fun w => beBytes 4 w.toNat)

/-- MISO over a whole frame whose request has n bytes, CRC included: 0x00 for the request and the turnaround byte, then the
response (R69). -/
def State.drive (s : State) (n : Nat) (resp : List Byte) : State :=
  { s with port := { s.port with miso := List.replicate (n + 1) 0 ++ resp } }

/-- A frame of n bytes that the port does not answer: MISO stays high (R84). -/
def State.silent (s : State) (n : Nat) : State := { s with port := { s.port with miso := List.replicate n 0xFF#8 } }

/-- A response with status st is counted (R75, the register tables of MG_PORT_ERR and ALERT_PORT). -/
def State.countStatus (s : State) (st : Nat) : State :=
  if st = pOk then s
  else if st = pCrcErr then (s.bumpSat R.MG_PORT_ERR 7 0 1).alert R.ALERT_PORT 0
  else (s.bumpSat R.MG_PORT_ERR 31 24 1).alert R.ALERT_PORT 2

/-- MG_PORT_STAT.last_status of a read or write frame (R72, R81). -/
def State.noteStatus (s : State) (st : Nat) : State := s.setFld R.MG_PORT_STAT 31 24 st

/-- The status of a frame that addresses n words from a (R73, R74): CRC_ERR, BAD_LEN, BAD_ADDR, else OK. -/
def addrStatus (crcOk : Bool) (a n span : Nat) : Nat :=
  if !crcOk then pCrcErr else if n = 0 ∨ 64 < n then pBadLen else if 512 < a + span then pBadAddr else pOk

/-- A read frame of n words from a (R76-R81): data, held response, RC clearing. -/
def State.readFrame (s : State) (crcOk : Bool) (a n reqLen : Nat) (crc : Byte) : State :=
  let st := addrStatus crcOk a n n
  if st = pOk then
    let (ws, s) := s.readRegs a n
    let s := s.clearRcs a n
    let s : State := { s with port := { s.port with held := some ws } }
    (s.noteStatus st).drive reqLen (responseBytes st (wordBytes ws) crc)
  else ((s.countStatus st).noteStatus st).drive reqLen (responseBytes st (wordBytes (List.replicate n 0)) crc)

/-- A word takes an entry of the pending-write queue (R77): neither immediate nor reserved. -/
def takesEntry (a : Nat) : Bool := !isImmediate a && !isReserved a

/-- A register that RECOVERY lets be written (R73). -/
def isImageReg (a : Nat) : Bool := decide (a = R.MG_IMG_CTRL ∨ a = R.MG_IMG_ADDR ∨ a = R.MG_IMG_DATA)

/-- The status of a write frame whose addresses are in range (R73, R74, R76, R89): RECOVERY, LOCKED, BUSY, else OK. -/
def State.writeStatus (s : State) (ws : List (Nat × Word)) : Nat :=
  if s.fld R.MG_STATE 2 0 = 1 ∧ ws.any (fun w => !isImageReg w.1) then pRecovery
  else if (s.bit R.CFG_STATUS 0 ∨ s.bit R.CFG_STATUS 2) ∧ ws.any (fun w => isLockable w.1) then pLocked
  else if 64 < s.port.queue.length + (ws.filter (fun w => takesEntry w.1)).length then pBusy
  else pOk

/-- One word of an accepted write (R76-R78, R89): immediate at once, reserved ignored, any other queued; a LOCK sets lock_pending. -/
def State.acceptWord (s : State) (a : Nat) (val : Word) : State :=
  if isReserved a then s
  else if isImmediate a then s.applyWrite a val (fun _ => true)
  else
    let s := if a = R.CFG_CMD ∧ field val 15 0 = 0x0C1C then s.acceptLock else s
    { s with port := { s.port with queue := s.port.queue ++ [(a, val)] } }

/-- A write frame: its words with their addresses, n the word count as received, `span` the words that its addresses cover. -/
def State.writeFrame (s : State) (crcOk : Bool) (a n span : Nat) (ws : List (Nat × Word)) (reqLen : Nat) (crc : Byte) : State :=
  let st := addrStatus crcOk a n span
  let st := if st = pOk then s.writeStatus ws else st
  let s :=
    if st = pOk then
      ws.foldl (fun (s : State) w => s.acceptWord w.1 w.2) (s.bumpWrap R.MG_PORT_STAT 15 0)
    else s.countStatus st
  (s.noteStatus st).drive reqLen (responseBytes st [] crc)

/-- The data words of a burst frame as received: n of them; a list of another length does not make the frame (R75). -/
def burstWords (a : Nat) (step : Nat) : List Word → List (Nat × Word)
  | [] => []
  | w :: ws => (a, w) :: burstWords (a + step) step ws

/-- The request bytes of a frame before its CRC. -/
def requestBytes (op : Nat) (addr : BitVec 16) (rest : List Byte) : List Byte :=
  BitVec.ofNat 8 op :: (beBytes 2 addr.toNat ++ rest)

/-- READ (R69, R76, R79-R81). -/
def execRead (addr : BitVec 16) (crc : Byte) (s : State) : Host.Outcome State Fault Refusal :=
  .next (if s.answers then
      s.readFrame (decide (crc8 0 (requestBytes 0x0B addr []) = crc)) addr.toNat 1 4 crc
    else s.silent 11)

/-- BURST_READ (R69, R74, R79). -/
def execBurstRead (addr : BitVec 16) (n : Byte) (crc : Byte) (s : State) : Host.Outcome State Fault Refusal :=
  .next (if s.answers then
      s.readFrame (decide (crc8 0 (requestBytes 0x0C addr [n]) = crc)) addr.toNat n.toNat 5 crc
    else s.silent (8 + 4 * n.toNat))

/-- WRITE (R69, R77). -/
def execWrite (addr : BitVec 16) (data : Word) (crc : Byte) (s : State) : Host.Outcome State Fault Refusal :=
  .next (if s.answers then
      s.writeFrame (decide (crc8 0 (requestBytes 0x02 addr (beBytes 4 data.toNat)) = crc)) addr.toNat 1 1 [(addr.toNat, data)] 8 crc
    else s.silent 11)

/-- The info bytes of a STATUS response (R72). -/
def State.infoBytes (s : State) : List Byte :=
  let b1 := b2n (s.bit R.ALERT_SRC 8) + 2 * s.fld R.MG_STATE 2 0 + 16 * b2n (s.bit R.CFG_STATUS 0)
    + 32 * b2n (!s.port.queue.isEmpty) + 64 * b2n (decide (s.fld R.CFG_STATUS 7 4 ≠ 0))
  [BitVec.ofNat 8 s.alertBlocks, BitVec.ofNat 8 b1] ++ beBytes 2 (s.fld R.MG_TICK 15 0)

/-- A STATUS frame (R72). -/
def State.statusFrame (s : State) (crc : Byte) : State :=
  if crc8 0 [0x05#8] = crc then s.drive 2 (responseBytes pOk s.infoBytes crc)
  else (s.countStatus pCrcErr).drive 2 (responseBytes pCrcErr (List.replicate 4 0) crc)

/-- STATUS (R72). -/
def execStatus (crc : Byte) (s : State) : Host.Outcome State Fault Refusal :=
  .next (if !s.answers then s.silent 9 else s.statusFrame crc)

/-- A REREAD frame (R81). -/
def State.rereadFrame (s : State) (crc : Byte) : State :=
  if crc8 0 [0x0E#8] ≠ crc then
    (s.countStatus pCrcErr).drive 2 (responseBytes pCrcErr (wordBytes (List.replicate (s.port.held.getD []).length 0)) crc)
  else match s.port.held with
    | some ws => s.drive 2 (responseBytes pOk (wordBytes ws) crc)
    | none => (s.countStatus pNoData).drive 2 (responseBytes pNoData [] crc)

/-- REREAD (R81). -/
def execReread (crc : Byte) (s : State) : Host.Outcome State Fault Refusal :=
  .next (if !s.answers then s.silent (5 + 4 * (s.port.held.getD []).length) else s.rereadFrame crc)

/-! ### Discarded frames (R69, R75) -/

/-- The n words that the bytes spell, most significant byte first (R68). -/
def beWords : Nat → List Byte → List Word
  | 0, _ => []
  | n + 1, bs => BitVec.ofNat 32 (leNat ((List.range 4).map (fun i => bs.getD i 0)).reverse) :: beWords n (bs.drop 4)

/-- The port after the frame whose MOSI bytes begin with `mosi`, as the frame table reads them; bytes that were not sent count
as zero. A first byte that is no opcode has no response (R69, R75). -/
def State.frameOf (s : State) (mosi : List Byte) : State :=
  let at_ (i : Nat) : Byte := mosi.getD i 0
  let ok (i : Nat) : Bool := decide (crc8 0 ((List.range i).map at_) = at_ i)
  let a := (at_ 1).toNat * 256 + (at_ 2).toNat
  let n := (at_ 3).toNat
  let data := beWords n (mosi.drop 4)
  match (at_ 0).toNat with
  | 0x0B => s.readFrame (ok 3) a 1 4 (at_ 3)
  | 0x0C => s.readFrame (ok 4) a n 5 (at_ 4)
  | 0x02 => s.writeFrame (ok 7) a 1 1 ((beWords 1 (mosi.drop 3)).map (fun w => (a, w))) 8 (at_ 7)
  | 0x0D => s.writeFrame (ok (4 + 4 * n)) a n n (burstWords a 1 data) (5 + 4 * n) (at_ (4 + 4 * n))
  | 0x0F => s.writeFrame (ok (4 + 4 * n)) a n 1 (burstWords a 0 data) (5 + 4 * n) (at_ (4 + 4 * n))
  | 0x05 => s.statusFrame (at_ 1)
  | 0x0E => s.rereadFrame (at_ 1)
  | _ => s.drive 0 []

/-- MISO over n bytes clocked: what the frame drives, then 0x00 until MCS_N rises (R69). -/
def fitMiso (n : Nat) (bs : List Byte) : List Byte := (bs ++ List.replicate (n - bs.length) 0).take n

/-- A frame that is discarded: counted, alerted, and nothing else happens (R75). MISO carries what the frame drives up to the
byte where MCS_N rises; after an unknown opcode that is 0x00 (R69, R75). -/
def State.discard (s : State) (k : DiscardKind) (mosi : List Byte) : State :=
  let bytes := match k with
    | .badOpcode => List.replicate mosi.length 0
    | .badLength => fitMiso mosi.length (s.frameOf mosi).port.miso
  let s := match k with
    | .badOpcode => s.bumpSat R.MG_PORT_ERR 23 16 1
    | .badLength => s.bumpSat R.MG_PORT_ERR 15 8 1
  { s.alert R.ALERT_PORT 1 with port := { s.port with miso := bytes } }

/-- DISCARDED_FRAME (R75). -/
def execDiscardedFrame (f : Discarded) (s : State) : Host.Outcome State Fault Refusal :=
  .next (if s.answers then s.discard f.kind f.mosi else s.silent f.mosi.length)

/-- The MOSI bytes of a write frame of n words that carries other data: its turnaround and response bytes are ignored (R69). -/
def misfit (op : Nat) (addr : BitVec 16) (n : Byte) (data : List Word) (crc : Byte) : List Byte :=
  requestBytes op addr (n :: wordBytes data) ++ [crc, 0, 0, 0]

/-- BURST_WRITE (R69, R76). The data's length is n words in a frame of the right length; another one is a discarded frame. -/
def execBurstWrite (addr : BitVec 16) (n : Byte) (data : List Word) (crc : Byte) (s : State) : Host.Outcome State Fault Refusal :=
  .next (if !s.answers then s.silent (8 + 4 * data.length)
    else if data.length ≠ n.toNat then s.discard .badLength (misfit 0x0D addr n data crc)
    else s.writeFrame (decide (crc8 0 (requestBytes 0x0D addr (n :: wordBytes data)) = crc)) addr.toNat n.toNat n.toNat
      (burstWords addr.toNat 1 data) (5 + 4 * n.toNat) crc)

/-- FIFO_WRITE (R69, R76): every word to one address. -/
def execFifoWrite (addr : BitVec 16) (n : Byte) (data : List Word) (crc : Byte) (s : State) : Host.Outcome State Fault Refusal :=
  .next (if !s.answers then s.silent (8 + 4 * data.length)
    else if data.length ≠ n.toNat then s.discard .badLength (misfit 0x0F addr n data crc)
    else s.writeFrame (decide (crc8 0 (requestBytes 0x0F addr (n :: wordBytes data)) = crc)) addr.toNat n.toNat 1
      (burstWords addr.toNat 0 data) (5 + 4 * n.toNat) crc)

/-! ### The mt boundary -/

/-- The queued writes are applied in acceptance order (R32, R77). -/
def State.applyQueue (s : State) (stopOk : Vector Bool 4) : State :=
  let q := s.port.queue
  let s : State := { s with port := { s.port with queue := [] } }
  q.foldl (fun (s : State) w => s.applyWrite w.1 w.2 (fun d => stopOk[d])) s

/-- An urgent cause remains set in its block's alert register (R87). -/
def State.urgentLeft (s : State) : Bool :=
  s.bit R.THM_ALERT 0 || s.bit R.SUP_ALERT 0 || s.bit R.SUP_ALERT 1 || s.bit R.HV_ALERT 0 || s.bit R.SAF_ALERT 0

/-- ALERT_N and ALERT_SRC.urgent after a boundary's effects (R86, R87). -/
def State.judgeAlert (s : State) : State :=
  let s := if s.urgentLeft then s else s.putBit R.ALERT_SRC 8 false
  let low := decide (s.alertBlocks &&& (255 - s.fld R.ALERT_MASK 7 0) ≠ 0) || s.bit R.ALERT_SRC 8 || s.pins.forcedLow
  { s with pins := { s.pins with alertN := !low } }

/-- The events of the Prilliner function whose alerts have set since the last boundary (R425). -/
def State.sendEvents (s : State) : State :=
  let p := s.pf.evPend
  let s : State := { s with pf := { s.pf with evPend := 0 } }
  (List.range 5).foldl (fun (s : State) k => if p.testBit k then s.pfEvent k else s) s

/-- PF_STATUS mirrors the management registers (R431). -/
def State.mirror (s : State) : State :=
  let w := s.fld R.MG_STATE 2 0 + 16 * s.fld R.SAF_STATE 1 0 + 64 * b2n (s.bit R.THM_STATUS 4) + 128 * b2n (s.bit R.THM_STATUS 5)
    + 256 * b2n (s.bit R.SUP_STATUS 0) + 4096 * s.fld R.PAIR_STATE 2 0 + 65536 * s.fld R.RAS_STATUS 2 0
  { s with pf := { s.pf with status := BitVec.ofNat 32 w } }

/-- The boundary is an mt mark for the PANEL queues (R30, R175, R346). -/
def State.markPanel (s : State) : State :=
  { s with pf := { s.pf with queues := s.pf.queues.map (Queue.mark s .pf) } }

/-- The scheduled actions of a boundary of a running Prilliner, after its writes (R31, R32). -/
def State.schedule (s : State) (trayPower : Nat) (diePower : Vector Nat 4) (stopOk : Vector Bool 4) : State :=
  let each (f : State → Die → State) (s : State) : State := (List.finRange 4).foldl f s
  let s := each (fun s d => s.applyReport d) s
  let s := each (fun s d => s.applyWakeDie d) s
  let s := s.applyWakeSrc
  let s := each (fun s d => s.retryRequest d stopOk[d]) s
  let s := s.judgeSleep
  let s := s.applyPower trayPower diePower
  let s := s.countHeartbeat.pairBoundary.judgeSafety
  s.sendFrame

/-- MT_BOUNDARY (R30-R32, R86, R87, R425, R431): the tick; protective states, writes in order of acceptance, scheduled actions;
then ALERT_N, the Prilliner's events and PF_STATUS. Nothing happens while the Prilliner has stopped; while its cores are held for
a restart only the tick counts; in BOOT and RECOVERY no firmware runs the scheduled work. -/
def State.boundary (s : State) (trayPower : Nat) (diePower : Vector Nat 4) (stopOk : Vector Bool 4) : State :=
  if s.pwr.stopped then s
  else
    let s := s.setReg R.MG_TICK (s.reg R.MG_TICK + 1)
    if s.saf.restart ≠ 0 then s
    else
      let s := s.leaveBoot
      if s.fld R.MG_STATE 2 0 ≤ 1 then s.judgeAlert.mirror
      else
        let s := if s.protective then s.forceMidnight else s
        let s := s.markPanel.applyAck.applyQueue stopOk
        let s := s.schedule trayPower diePower stopOk
        s.judgeAlert.sendEvents.mirror

/-- MT_BOUNDARY. -/
def execMtBoundary (t trayPower : Nat) (diePower : Vector Nat 4) (stopOk : Vector Bool 4) (s : State) :
    Host.Outcome State Fault Refusal :=
  .next ((s.at t).boundary trayPower diePower stopOk)

end Sys2Proof.Machine
end

