-- ==== Sys2Proof/Machine/Dispatch.lean ====
section
/-!
DEFINITION. The dispatch: one arm per command of the table, each a direct call of its meaning.
-/
namespace Sys2Proof.Machine

def exec (i : Instr) (s : State) : Host.Outcome State Fault Refusal :=
  match i with
  | .read addr crc => Sys2Proof.Machine.execRead addr crc s
  | .write addr data crc => Sys2Proof.Machine.execWrite addr data crc s
  | .status crc => Sys2Proof.Machine.execStatus crc s
  | .burstRead addr n crc => Sys2Proof.Machine.execBurstRead addr n crc s
  | .burstWrite addr n data crc => Sys2Proof.Machine.execBurstWrite addr n data crc s
  | .fifoWrite addr n data crc => Sys2Proof.Machine.execFifoWrite addr n data crc s
  | .reread crc => Sys2Proof.Machine.execReread crc s
  | .discardedFrame kind => Sys2Proof.Machine.execDiscardedFrame kind s
  | .mrstNReset lowNs pairSel => Sys2Proof.Machine.execMrstNReset lowNs pairSel s
  | .mcsNWake => Sys2Proof.Machine.execMcsNWake s
  | .mtBoundary t trayPower diePower stopOk => Sys2Proof.Machine.execMtBoundary t trayPower diePower stopOk s
  | .registerWrite sp addr val => Sys2Proof.Machine.execRegisterWrite sp addr val s
  | .commit => Sys2Proof.Machine.execCommit s
  | .lock applied => Sys2Proof.Machine.execLock applied s
  | .quiesceReport d => Sys2Proof.Machine.execQuiesceReport d s
  | .lineRefEdge t e => Sys2Proof.Machine.execLineRefEdge t e s
  | .frameRefEdge t e => Sys2Proof.Machine.execFrameRefEdge t e s
  | .lineMissing t => Sys2Proof.Machine.execLineMissing t s
  | .referenceLoss t => Sys2Proof.Machine.execReferenceLoss t s
  | .referenceStop t => Sys2Proof.Machine.execReferenceStop t s
  | .trayLineStart t => Sys2Proof.Machine.execTrayLineStart t s
  | .rasterPulse d => Sys2Proof.Machine.execRasterPulse d s
  | .mtMark d => Sys2Proof.Machine.execMtMark d s
  | .rasModeChange mode => Sys2Proof.Machine.execRasModeChange mode s
  | .paceParamChange period lines => Sys2Proof.Machine.execPaceParamChange period lines s
  | .setFrame => Sys2Proof.Machine.execSetFrame s
  | .acceptGeom => Sys2Proof.Machine.execAcceptGeom s
  | .supplySample vbus ibus vres => Sys2Proof.Machine.execSupplySample vbus ibus vres s
  | .sagWarn => Sys2Proof.Machine.execSagWarn s
  | .sagWarnRelease => Sys2Proof.Machine.execSagWarnRelease s
  | .sagReset => Sys2Proof.Machine.execSagReset s
  | .sagResetRelease => Sys2Proof.Machine.execSagResetRelease s
  | .overvoltageReset => Sys2Proof.Machine.execOvervoltageReset s
  | .vresCollapse => Sys2Proof.Machine.execVresCollapse s
  | .powerOnReset pairSel => Sys2Proof.Machine.execPowerOnReset pairSel s
  | .powerStateRequest d target stopLineOk => Sys2Proof.Machine.execPowerStateRequest d target stopLineOk s
  | .powerStateReached d r => Sys2Proof.Machine.execPowerStateReached d r s
  | .sleep => Sys2Proof.Machine.execSleep s
  | .sleepEntryDone => Sys2Proof.Machine.execSleepEntryDone s
  | .wakeTimerExpiry => Sys2Proof.Machine.execWakeTimerExpiry s
  | .perstNRise => Sys2Proof.Machine.execPerstNRise s
  | .perstNFall => Sys2Proof.Machine.execPerstNFall s
  | .idleReturn d => Sys2Proof.Machine.execIdleReturn d s
  | .thermalScan t g codes bad => Sys2Proof.Machine.execThermalScan t g codes bad s
  | .thmSample t codes bad => Sys2Proof.Machine.execThmSample t codes bad s
  | .thermalRearm code => Sys2Proof.Machine.execThermalRearm code s
  | .hostThermalAck code => Sys2Proof.Machine.execHostThermalAck code s
  | .tidemarkRecordWrite ok0 ok1 => Sys2Proof.Machine.execTidemarkRecordWrite ok0 ok1 s
  | .logCapture index slotBusy => Sys2Proof.Machine.execLogCapture index slotBusy s
  | .logCaptureDone => Sys2Proof.Machine.execLogCaptureDone s
  | .patrolScrub d tier1 unit r passDone => Sys2Proof.Machine.execPatrolScrub d tier1 unit r passDone s
  | .linkDown d k => Sys2Proof.Machine.execLinkDown d k s
  | .linkRetrain d k => Sys2Proof.Machine.execLinkRetrain d k s
  | .poolWrite d size val => Sys2Proof.Machine.execPoolWrite d size val s
  | .watermarkWrite d val => Sys2Proof.Machine.execWatermarkWrite d val s
  | .bar2Read fn off n ev => Sys2Proof.Machine.execBar2Read fn off n ev s
  | .bar2Write fn off data ep => Sys2Proof.Machine.execBar2Write fn off data ep s
  | .apertureMove d high val => Sys2Proof.Machine.execApertureMove d high val s
  | .pairPortRequest d a addr n data => Sys2Proof.Machine.execPairPortRequest d a addr n data s
  | .configRequest fn r wr => Sys2Proof.Machine.execConfigRequest fn r wr s
  | .doorbell fn q tail width => Sys2Proof.Machine.execDoorbell fn q tail width s
  | .commandFetch fn q ev => Sys2Proof.Machine.execCommandFetch fn q ev s
  | .enable fn q => Sys2Proof.Machine.execEnable fn q s
  | .disable fn q => Sys2Proof.Machine.execDisable fn q s
  | .resume fn q => Sys2Proof.Machine.execResume fn q s
  | .rebind fn q => Sys2Proof.Machine.execRebind fn q s
  | .reset fn q => Sys2Proof.Machine.execReset fn q s
  | .queueConfigWrite fn q off val => Sys2Proof.Machine.execQueueConfigWrite fn q off val s
  | .cmdDescBaseWrite d high val => Sys2Proof.Machine.execCmdDescBaseWrite d high val s
  | .cplHeadWrite fn q val => Sys2Proof.Machine.execCplHeadWrite fn q val s
  | .descriptorRead fn q => Sys2Proof.Machine.execDescriptorRead fn q s
  | .nop fn q => Sys2Proof.Machine.execNop fn q s
  | .gemm d q => Sys2Proof.Machine.execGemm d q s
  | .conv3d d q => Sys2Proof.Machine.execConv3d d q s
  | .attend d q => Sys2Proof.Machine.execAttend d q s
  | .attendBwd d q => Sys2Proof.Machine.execAttendBwd d q s
  | .stats d q => Sys2Proof.Machine.execStats d q s
  | .eltwise d q => Sys2Proof.Machine.execEltwise d q s
  | .panelClassify d q => Sys2Proof.Machine.execPanelClassify d q s
  | .copy d q => Sys2Proof.Machine.execCopy d q s
  | .fill d q => Sys2Proof.Machine.execFill d q s
  | .convert d q => Sys2Proof.Machine.execConvert d q s
  | .transpose d q => Sys2Proof.Machine.execTranspose d q s
  | .map d q => Sys2Proof.Machine.execMap d q s
  | .share d q => Sys2Proof.Machine.execShare d q s
  | .cow d q => Sys2Proof.Machine.execCow d q s
  | .spill d q => Sys2Proof.Machine.execSpill d q s
  | .prefetch d q => Sys2Proof.Machine.execPrefetch d q s
  | .evict d q => Sys2Proof.Machine.execEvict d q s
  | .shadow d q => Sys2Proof.Machine.execShadow d q s
  | .compact d q => Sys2Proof.Machine.execCompact d q s
  | .update q => Sys2Proof.Machine.execUpdate q s
  | .park q => Sys2Proof.Machine.execPark q s
  | .history q => Sys2Proof.Machine.execHistory q s
  | .waveformLoad q => Sys2Proof.Machine.execWaveformLoad q s
  | .readState q => Sys2Proof.Machine.execReadState q s
  | .executionStepEnd fn eng last ev => Sys2Proof.Machine.execExecutionStepEnd fn eng last ev s
  | .commandComplete fn q busyDc recordOk => Sys2Proof.Machine.execCommandComplete fn q busyDc recordOk s
  | .preemption d eng => Sys2Proof.Machine.execPreemption d eng s
  | .preemptRestore d eng => Sys2Proof.Machine.execPreemptRestore d eng s
  | .waitTimeout fn q => Sys2Proof.Machine.execWaitTimeout fn q s
  | .weirAgeing d q => Sys2Proof.Machine.execWeirAgeing d q s
  | .globalSignal src => Sys2Proof.Machine.execGlobalSignal src s
  | .globalNotify g dst => Sys2Proof.Machine.execGlobalNotify g dst s
  | .hostSignal d obj v => Sys2Proof.Machine.execHostSignal d obj v s
  | .syncValCapture d obj => Sys2Proof.Machine.execSyncValCapture d obj s
  | .cmdRasterCapture d => Sys2Proof.Machine.execCmdRasterCapture d s
  | .waiterArm d w ctrl => Sys2Proof.Machine.execWaiterArm d w ctrl s
  | .autoSpill d => Sys2Proof.Machine.execAutoSpill d s
  | .pageFill d q => Sys2Proof.Machine.execPageFill d q s
  | .pageEnable d val => Sys2Proof.Machine.execPageEnable d val s
  | .panelScanFrame => Sys2Proof.Machine.execPanelScanFrame s
  | .panelEnable val => Sys2Proof.Machine.execPanelEnable val s
  | .parkAll => Sys2Proof.Machine.execParkAll s
  | .stopAll => Sys2Proof.Machine.execStopAll s
  | .hvArm val => Sys2Proof.Machine.execHvArm val s
  | .hvPowerUp => Sys2Proof.Machine.execHvPowerUp s
  | .hvRailsUp => Sys2Proof.Machine.execHvRailsUp s
  | .hvPowerDown => Sys2Proof.Machine.execHvPowerDown s
  | .hvRailsDown => Sys2Proof.Machine.execHvRailsDown s
  | .hvFault rail cause reading => Sys2Proof.Machine.execHvFault rail cause reading s
  | .hvRetryExpiry => Sys2Proof.Machine.execHvRetryExpiry s
  | .hvAttemptsClear => Sys2Proof.Machine.execHvAttemptsClear s
  | .vresLow => Sys2Proof.Machine.execVresLow s
  | .hvRearm code => Sys2Proof.Machine.execHvRearm code s
  | .kickbackStart frames => Sys2Proof.Machine.execKickbackStart frames s
  | .kickbackDone sensed => Sys2Proof.Machine.execKickbackDone sensed s
  | .tripCardDraw => Sys2Proof.Machine.execTripCardDraw s
  | .beat t frame => Sys2Proof.Machine.execBeat t frame s
  | .sleepFrame t frame => Sys2Proof.Machine.execSleepFrame t frame s
  | .wakeFrame t frame => Sys2Proof.Machine.execWakeFrame t frame s
  | .unpairFrame t frame => Sys2Proof.Machine.execUnpairFrame t frame s
  | .peerLoss t => Sys2Proof.Machine.execPeerLoss t s
  | .confirmDown check => Sys2Proof.Machine.execConfirmDown check s
  | .unpair => Sys2Proof.Machine.execUnpair s
  | .clearClaim => Sys2Proof.Machine.execClearClaim s
  | .retry => Sys2Proof.Machine.execRetry s
  | .checkpointReport d => Sys2Proof.Machine.execCheckpointReport d s
  | .bridgeMessage d => Sys2Proof.Machine.execBridgeMessage d s
  | .dieBridgeEvent d => Sys2Proof.Machine.execDieBridgeEvent d s
  | .lockstepMismatch => Sys2Proof.Machine.execLockstepMismatch s
  | .watchdogExpiry missed => Sys2Proof.Machine.execWatchdogExpiry missed s
  | .clockFault => Sys2Proof.Machine.execClockFault s
  | .safeRestart lockstepOk clockOk => Sys2Proof.Machine.execSafeRestart lockstepOk clockOk s
  | .monitorSelfTest failed => Sys2Proof.Machine.execMonitorSelfTest failed s
  | .controllerSilent => Sys2Proof.Machine.execControllerSilent s
  | .clear => Sys2Proof.Machine.execClear s
  | .kick => Sys2Proof.Machine.execKick s
  | .mark => Sys2Proof.Machine.execMark s
  | .mgmtSramUe region unit => Sys2Proof.Machine.execMgmtSramUe region unit s
  | .imgOpen target => Sys2Proof.Machine.execImgOpen target s
  | .imageDataWrite w => Sys2Proof.Machine.execImageDataWrite w s
  | .verify => Sys2Proof.Machine.execVerify s
  | .imageVerified v => Sys2Proof.Machine.execImageVerified v s
  | .abort => Sys2Proof.Machine.execAbort s
  | .firmwareStart lockstepOk clockOk => Sys2Proof.Machine.execFirmwareStart lockstepOk clockOk s
  | .microcodeVerified => Sys2Proof.Machine.execMicrocodeVerified s
  | .flr fn => Sys2Proof.Machine.execFlr fn s
  | .pairFrameInvalid t frame => Sys2Proof.Machine.execPairFrameInvalid t frame s
  | .bar0RcRead fn off => Sys2Proof.Machine.execBar0RcRead fn off s
  | .vresRecovered => Sys2Proof.Machine.execVresRecovered s
  | .completionTimeout d q => Sys2Proof.Machine.execCompletionTimeout d q s

end Sys2Proof.Machine
end

