-- ==== Sys2Proof/Safety.lean ====
section
/-!
DEFINITION. The terms that claims use: what a command may change (frames), what a good answer of the management port is, and the
invariants of every step.
-/
namespace Sys2Proof.Machine

open Sys2Proof

/-! ### Frames -/

/-- From s to t nothing changed but management registers, and of these only those in `as`: no byte of memory, no pin, no queue, no
die. -/
def State.regsOnly (s t : State) (as : List Nat) : Prop :=
  t = { s with regs := t.regs } ∧ ∀ a, a ∉ as → t.reg a = s.reg a

/-- Registers outside `as` are unchanged. -/
def State.sameRegs (s t : State) (as : List Nat) : Prop := ∀ a, a ∉ as → t.reg a = s.reg a

/-- Every byte of memory reads as before: the dies' tiers, PCIe memory, the twin, work SRAM, waveform SRAM, Tidemark; and every
pixel word. -/
def State.sameBytes (s t : State) : Prop :=
  (∀ x : Target, t.peek x = s.peek x) ∧ (∀ a, t.pnl.wave.read a = s.pnl.wave.read a)
    ∧ (∀ a, t.tm.cells.read a = s.tm.cells.read a) ∧ t.pnl.pixels = s.pnl.pixels

/-- Every byte of memory outside `w` reads as before. -/
def State.sameBytesBut (s t : State) (w : Target → Prop) : Prop :=
  (∀ x : Target, ¬ w x → t.peek x = s.peek x) ∧ (∀ a, t.pnl.wave.read a = s.pnl.wave.read a)
    ∧ (∀ a, t.tm.cells.read a = s.tm.cells.read a) ∧ t.pnl.pixels = s.pnl.pixels

/-- From s to t only the state of die d changed. -/
def State.dieOnly (s t : State) (d : Die) : Prop :=
  t = { s with dies := t.dies } ∧ ∀ e : Die, e ≠ d → t.dies[e] = s.dies[e]

/-- Of a die only the queue registers and commands of queue q changed. -/
def DieSt.queueOnly (x y : DieSt) (q : QIdx) : Prop :=
  y = { x with queues := y.queues } ∧ ∀ p : QIdx, p ≠ q → y.queues[p] = x.queues[p]

/-! ### The management port -/

/-- A read frame of n words from a was answered with OK (R69, R79-R81): its words are held and driven, RC fields of the words read
are cleared, and nothing else changes but last_status and the raster capture. -/
def State.goodRead (s t : State) (a n reqLen : Nat) (crc : Byte) : Prop :=
  t.port = { s.port with held := some (s.readRegs a n).1,
                         miso := List.replicate (reqLen + 1) 0 ++ responseBytes pOk (wordBytes (s.readRegs a n).1) crc } ∧
  t.fld R.MG_PORT_STAT 31 24 = 0 ∧
  (∀ b, b ≠ R.MG_PORT_STAT → t.reg b = if a ≤ b ∧ b < a + n then (s.clearRc b).reg b else s.reg b) ∧
  t = { s with regs := t.regs, port := t.port, ras := { s.ras with capture := t.ras.capture } }

/-- A write frame was accepted (R72, R77): its words joined the pending-write queue in order and wait for the boundary; nothing
else changes but MG_PORT_STAT and MISO. -/
def State.goodWrite (s t : State) (ws : List (Nat × Word)) (reqLen : Nat) (crc : Byte) : Prop :=
  t.port = { s.port with queue := s.port.queue ++ ws,
                         miso := List.replicate (reqLen + 1) 0 ++ responseBytes pOk [] crc } ∧
  t.fld R.MG_PORT_STAT 31 24 = 0 ∧
  t.fld R.MG_PORT_STAT 15 0 = (s.fld R.MG_PORT_STAT 15 0 + 1) % 65536 ∧
  (∀ b, b ≠ R.MG_PORT_STAT → t.reg b = s.reg b) ∧
  t = { s with regs := t.regs, port := t.port }

/-- A frame was refused with status st (R72, R73, R75): its status is driven and counted, and it has no other effect. -/
def State.refusedFrame (s t : State) (st reqLen : Nat) (body : List Byte) (crc : Byte) : Prop :=
  t.port = { s.port with miso := List.replicate (reqLen + 1) 0 ++ responseBytes st body crc } ∧
  (if st = pCrcErr then
      t.fld R.MG_PORT_ERR 7 0 = satAt 255 (s.fld R.MG_PORT_ERR 7 0 + 1) ∧ t.bit R.ALERT_PORT 0 = true
    else t.fld R.MG_PORT_ERR 31 24 = satAt 255 (s.fld R.MG_PORT_ERR 31 24 + 1) ∧ t.bit R.ALERT_PORT 2 = true) ∧
  (∀ b, b ∉ [R.MG_PORT_STAT, R.MG_PORT_ERR, R.ALERT_PORT] → t.reg b = s.reg b) ∧
  t = { s with regs := t.regs, port := t.port }

/-! ### The work of a command -/

/-- Two runs of bytes, as (region, first place, length), share none. -/
def apart (x y : Nat × Nat × Nat) : Prop := x.1 ≠ y.1 ∨ x.2.1 + x.2.2 ≤ y.2.1 ∨ y.2.1 + y.2.2 ≤ x.2.1

/-- Every byte of a run leads to memory, and the run stays in one region. -/
def State.oneRegion (s : State) (v : Port3) (p : Nat × Nat) : Prop :=
  ∀ i, i < p.2 → ∃ x, s.routeFn v.fn v.tw (p.1 + i) = .ok x ∧ (∀ o, x ≠ .pfRegs o) ∧
    targetCode x = ((s.place v p).1, (s.place v p).2.1 + i)

/-- A command's work meets no failure, and its outputs overlap neither its inputs nor one another (R146, R154). -/
def State.workFits (s : State) (v : Port3) (w : Work) : Prop :=
  s.readFail v (w.checks ++ w.reads) = none ∧ s.writeFail v (emitSpans w.emits) = none ∧
  (∀ p ∈ w.reads ++ emitSpans w.emits, s.oneRegion v p) ∧
  (emitSpans w.emits).Pairwise (fun x y => apart (s.place v x) (s.place v y)) ∧
  (∀ x ∈ emitSpans w.emits, ∀ y ∈ w.reads, apart (s.place v x) (s.place v y))

/-- From s to t, of every queue of every die only queue q of die d changed, and of its commands only the one at place n. -/
def State.otherCommandsSame (s t : State) (d : Die) (q : QIdx) (n : Nat) : Prop :=
  (∀ (e : Die) (p : QIdx), (e ≠ d ∨ p ≠ q) → t.dies[e].queues[p] = s.dies[e].queues[p]) ∧
  t.dies[d].queues[q] = { s.dies[d].queues[q] with live := t.dies[d].queues[q].live } ∧
  (∀ i, i ≠ n → t.dies[d].queues[q].live[i]? = s.dies[d].queues[q].live[i]?)

/-- No command before place n of queue q is still writing what it has written (R168). -/
def State.unwritten (s : State) (d : Die) (q : QIdx) (n : Nat) : Prop :=
  (s.dies[d].queues[q].live.take n).flatMap Live.undo = []

/-- The command l at place n of queue q did its work w whole: it runs on with its result, memory holds every output, every other
byte reads as before, and no register of the Prilliner and no other command changed. -/
def State.workDone (s t : State) (d : Die) (q : QIdx) (n : Nat) (l : Live) (w : Work) : Prop :=
  let v := viewOf (.die d) q
  (∃ u, t.dies[d].queues[q].live[n]? = some { l with phase := .running, result := w.result, undo := u }) ∧
  t.dies[d].engines[engineIdx (engineOf q)].running = some q ∧
  (∀ e ∈ w.emits, t.bytesAt v e.addr e.data.length = e.data) ∧
  s.sameBytesBut t (fun x => ∃ e ∈ w.emits, ∃ i, i < e.data.length ∧ s.routeFn v.fn v.tw (e.addr + i) = .ok x) ∧
  t.regs = s.regs ∧ s.otherCommandsSame t d q n

/-- The command at place n of queue q ended with a status: the engine is free, and no other command changed. -/
def State.endedWith (s t : State) (d : Die) (q : QIdx) (n st : Nat) : Prop :=
  (∃ m, t.dies[d].queues[q].live[n]? = some m ∧ m.phase = .ended ∧ m.status = st) ∧
  t.dies[d].engines[engineIdx (engineOf q)].running = none ∧ t.regs = s.regs ∧ s.otherCommandsSame t d q n

/-! ### Invariants of every step -/

/-- The pending-write queue holds at most 64 writes, each to a register that takes an entry (R77). -/
def State.portOk (s : State) : Prop :=
  s.port.queue.length ≤ 64 ∧ ∀ w ∈ s.port.queue, takesEntry w.1 = true ∧ w.1 < 512

/-- Every memory is in its canonical form (Memory.wf). -/
def State.memoriesOk (s : State) : Prop :=
  s.tm.cells.wf = true ∧ s.pnl.wave.wf = true ∧ s.pnl.work.wf = true ∧ s.ext.host.wf = true ∧
  (∀ d : Die, s.ext.twin[d].wf = true ∧ s.dies[d].t0.wf = true ∧ s.dies[d].t1.wf = true)

/-- A command that resets the Prilliner: power-on reset, MRST_N reset, or the end of the verification of an image loaded in
RECOVERY, which restarts through an MRST_N reset (R439). -/
def resets : Instr → Bool
  | .powerOnReset .. => true
  | .mrstNReset .. => true
  | .imageVerified .. => true
  | _ => false

end Sys2Proof.Machine
end

