-- ==== Sys2Proof/WellFormed.lean ====
section
/-!
DEFINITION. Well-formed commands: the operands that the spec lets a row have. The meanings are total, so an ill-formed command
stops nothing; what it does is the model's (assumption log 8).
-/
namespace Sys2Proof

/-- The Prilliner function has queues 0 to 3 (R346); a die has all 32 (R162). -/
def queueWf : Fn → QIdx → Bool
  | .die _, _ => true
  | .pf, q => decide (q.val < 4)

/-- A function has the engines of its side: a die COMPUTE, COPY and PAGE, the Prilliner PANEL (R162, R346). -/
def engineWf : Fn → Engine → Bool
  | .die _, e => decide (e ≠ .panel)
  | .pf, e => decide (e = .panel)

/-- The opcodes of the frame table (R69). -/
def isOpcode (b : Byte) : Bool := decide (b.toNat ∈ [0x02, 0x05, 0x0B, 0x0C, 0x0D, 0x0E, 0x0F])

/-- Channels of a sampling group: 64 of a die, 9 of the tray (R117, R119). -/
def channelsOf (g : Fin 5) : Nat := if g.val < 4 then 64 else 9

/-- A line number of a group: rows and columns of a die grid, channel offsets of the tray group (R131). -/
def lineWf (g : Fin 5) (f : LineFail) : Bool := decide (f.line < if g.val < 4 then 16 else 8)

/-- The fault of an access names parts that exist (R42): 128 cores of 16 arrays and three staging parts. -/
def accessWf : AccessEvent → Bool
  | .arrayError c a => decide (c < 128) && decide (a < 16)
  | .stagingError c p => decide (c < 128) && decide (p < 3)
  | _ => true

/-- A trained PCIe link: a speed code 1 to 6 (2.5 to 64 GT/s) and a width of R410. -/
def linkWf (speed width : Nat) : Bool :=
  decide (1 ≤ speed ∧ speed ≤ 6) && decide (width = 16 ∨ width = 8 ∨ width = 4 ∨ width = 1)

/-- What a raise meets names parts that exist (R443). -/
def raiseWf : RaiseResult → Bool
  | .repairTier0 _ l => decide (l < 4 ∨ l = 255)
  | .repairStaging c p => decide (c < 128) && decide (p < 3)
  | .repairArray c a => decide (c < 128) && decide (a < 16)
  | .tier1Untrained c => decide (c < 32)
  | .pcieReduced speed width => linkWf speed width
  | _ => true

/-- The operands of a command are ones the spec lets it have. -/
def Instr.wf : Instr → Bool
  | .burstWrite _ n data _ => decide (data.length = n.toNat)
  | .fifoWrite _ n data _ => decide (data.length = n.toNat)
  | .registerWrite .mgmt addr _ => decide (addr < 512)
  | .registerWrite (.bar0 _) addr _ => decide (addr % 4 = 0)
  | .bar0RcRead _ off => decide (off % 4 = 0)
  | .rasModeChange mode => decide (mode ≠ 3#2)
  | .powerStateRequest _ target _ => decide (target.toNat ≤ 5)
  | .powerStateReached _ r => raiseWf r
  | .thermalScan _ g codes bad => decide (codes.length = channelsOf g) && bad.all (lineWf g)
  | .thmSample _ codes bad => decide (codes.length = 265) && bad.all (fun b => lineWf b.1 b.2)
  | .bar2Read _ _ n ev => decide (0 < n) && accessWf ev
  | .bar2Write _ _ data _ => !data.isEmpty
  | .pairPortRequest _ .write _ n data => decide (0 < n) && decide (data.length = n)
  | .pairPortRequest _ (.read ev) _ n _ => decide (0 < n) && accessWf ev
  | .doorbell fn q _ width => queueWf fn q && decide (width = 1 ∨ width = 2 ∨ width = 4 ∨ width = 8)
  | .commandFetch fn q ev => queueWf fn q && accessWf ev
  | .enable fn q => queueWf fn q
  | .disable fn q => queueWf fn q
  | .resume fn q => queueWf fn q
  | .rebind fn q => queueWf fn q
  | .reset fn q => queueWf fn q
  | .queueConfigWrite fn q off _ => queueWf fn q && decide (off < 0x1C) && decide (off % 4 = 0)
  | .cplHeadWrite fn q _ => queueWf fn q
  | .descriptorRead fn q => queueWf fn q.who && accessWf q.met
  | .nop fn q => queueWf fn q
  | .executionStepEnd fn eng _ ev => engineWf fn eng && accessWf ev
  | .commandComplete fn q _ _ => queueWf fn q
  | .preemption _ eng => decide (eng ≠ .panel)
  | .preemptRestore _ eng => decide (eng ≠ .panel)
  | .waitTimeout fn q => queueWf fn q
  | .hvFault _ cause _ => decide (cause ≠ 0)
  | .beat _ frame => decide (frame.length = 64)
  | .sleepFrame _ frame => decide (frame.length = 64)
  | .wakeFrame _ frame => decide (frame.length = 64)
  | .unpairFrame _ frame => decide (frame.length = 64)
  | .imgOpen target => decide (target.toNat < 2)
  | .read .. => true
  | .write .. => true
  | .status .. => true
  | .burstRead .. => true
  | .reread .. => true
  | .discardedFrame ⟨.badOpcode, mosi⟩ => mosi.head?.any (fun b => !isOpcode b)
  | .discardedFrame ⟨.badLength, mosi⟩ => mosi.head?.all isOpcode
  | .mrstNReset .. => true
  | .mcsNWake => true
  | .mtBoundary .. => true
  | .commit => true
  | .lock .. => true
  | .quiesceReport .. => true
  | .lineRefEdge .. => true
  | .frameRefEdge .. => true
  | .lineMissing .. => true
  | .referenceLoss .. => true
  | .referenceStop .. => true
  | .trayLineStart .. => true
  | .rasterPulse .. => true
  | .mtMark .. => true
  | .paceParamChange .. => true
  | .setFrame => true
  | .acceptGeom => true
  | .supplySample .. => true
  | .sagWarn => true
  | .sagWarnRelease => true
  | .sagReset => true
  | .sagResetRelease => true
  | .overvoltageReset => true
  | .vresCollapse => true
  | .powerOnReset .. => true
  | .sleep => true
  | .sleepEntryDone => true
  | .wakeTimerExpiry => true
  | .perstNRise => true
  | .perstNFall => true
  | .idleReturn .. => true
  | .thermalRearm .. => true
  | .hostThermalAck .. => true
  | .tidemarkRecordWrite .. => true
  | .logCapture .. => true
  | .logCaptureDone => true
  | .linkDown .. => true
  | .linkRetrain .. => true
  | .patrolScrub _ tier1 unit _ _ => decide (unit ≤ (if tier1 then 0x1800000000 / 32 else 0x80000000 / 8))
  | .poolWrite .. => true
  | .watermarkWrite .. => true
  | .apertureMove .. => true
  | .configRequest .. => true
  | .cmdDescBaseWrite .. => true
  | .gemm .. => true
  | .conv3d .. => true
  | .attend .. => true
  | .attendBwd .. => true
  | .stats .. => true
  | .eltwise .. => true
  | .panelClassify .. => true
  | .copy .. => true
  | .fill .. => true
  | .convert .. => true
  | .transpose .. => true
  | .map .. => true
  | .share .. => true
  | .cow .. => true
  | .spill .. => true
  | .prefetch .. => true
  | .evict .. => true
  | .shadow .. => true
  | .compact .. => true
  | .update .. => true
  | .park .. => true
  | .history .. => true
  | .waveformLoad .. => true
  | .readState .. => true
  | .weirAgeing .. => true
  | .globalSignal .. => true
  | .globalNotify .. => true
  | .hostSignal .. => true
  | .syncValCapture .. => true
  | .cmdRasterCapture .. => true
  | .waiterArm .. => true
  | .autoSpill d => accessWf d.met
  | .pageFill _ q => accessWf q.met
  | .pageEnable .. => true
  | .panelScanFrame => true
  | .panelEnable .. => true
  | .parkAll => true
  | .stopAll => true
  | .hvArm .. => true
  | .hvPowerUp => true
  | .hvRailsUp => true
  | .hvPowerDown => true
  | .hvRailsDown => true
  | .hvRetryExpiry => true
  | .hvAttemptsClear => true
  | .vresLow => true
  | .hvRearm .. => true
  | .kickbackStart .. => true
  | .kickbackDone .. => true
  | .tripCardDraw => true
  | .peerLoss .. => true
  | .confirmDown .. => true
  | .unpair => true
  | .clearClaim => true
  | .retry => true
  | .checkpointReport .. => true
  | .bridgeMessage .. => true
  | .dieBridgeEvent .. => true
  | .lockstepMismatch => true
  | .watchdogExpiry .. => true
  | .clockFault => true
  | .safeRestart .. => true
  | .monitorSelfTest .. => true
  | .controllerSilent => true
  | .clear => true
  | .kick => true
  | .mark => true
  | .mgmtSramUe .. => true
  | .imageDataWrite .. => true
  | .verify => true
  | .imageVerified .. => true
  | .abort => true
  | .firmwareStart .. => true
  | .microcodeVerified => true
  | .flr .. => true
  | .pairFrameInvalid .. => true
  | .vresRecovered => true
  | .completionTimeout _ _ => true

end Sys2Proof
end

