-- ==== Sys2Proof/Certificates/Slice0/Obligations.lean ====
section
/-!
DEFINITION. The statements for the provers: what each family of commands does and leaves alone, and what every step keeps. Each
docstring names the rules of the spec; the words 'model's choice' mark a clause that rests on a log entry.
-/
open Sys2Proof Sys2Proof.Machine

/-! ### The queue of commands and the step -/

/-- A step takes the command at the front of the queue and runs it on the queue's rest; with an empty queue the block idles
(assumption log 1). -/
def Obligations.StepTakesTheFrontCommand : Prop :=
  (∀ (c : Instr) (rest : List Instr) (s : State),
    step { s with pending := c :: rest } = exec c { s with pending := rest }) ∧
  (∀ s : State, step { s with pending := [] } = .next { s with pending := [] })

/-- No command touches the queue of the commands that wait. -/
def Obligations.NoCommandTouchesTheQueue : Prop :=
  ∀ (c : Instr) (s t : State), exec c s = .next t → t.pending = s.pending

/-- Right after reset the invariant of the pending-write queue holds, the lock is clear and every memory is in canonical form
(R77, R89). -/
def Obligations.ResetMeetsTheInvariants : Prop :=
  State.reset.portOk ∧ State.reset.bit R.CFG_STATUS 0 = false ∧ State.reset.pending = [] ∧
  State.reset.memoriesOk

/-- Every step keeps the invariant of the pending-write queue: at most 64 entries, each of them an address of the map that is
neither immediate nor reserved (R77). -/
def Obligations.StepKeepsThePortQueue : Prop :=
  ∀ s t : State, s.portOk → step s = .next t → t.portOk

/-- Every step keeps every memory in its canonical form: keys rise, and no cell holds what an unlisted one reads as (the model's
form, assumption log 4). -/
def Obligations.StepKeepsTheMemoriesCanonical : Prop :=
  ∀ s t : State, s.memoriesOk → step s = .next t → t.memoriesOk

/-- Only a reset of the Prilliner clears the lock (R89): every other command leaves CFG_STATUS.locked set once it is set. -/
def Obligations.OnlyResetClearsTheLock : Prop :=
  ∀ (c : Instr) (s t : State), s.bit R.CFG_STATUS 0 = true → resets c = false → exec c s = .next t →
    t.bit R.CFG_STATUS 0 = true

/-- MG_TICK counts mt boundaries and nothing else (R30): MT_BOUNDARY raises it by one while the Prilliner has not stopped, and no
other command but a reset or the restart into SAFE changes it. -/
def Obligations.TickCountsBoundaries : Prop :=
  (∀ (t trayPower : Nat) (diePower : Vector Nat 4) (stopOk : Vector Bool 4) (s : State),
    ∃ u, exec (.mtBoundary t trayPower diePower stopOk) s = .next u ∧
      u.reg R.MG_TICK = if s.pwr.stopped then s.reg R.MG_TICK else s.reg R.MG_TICK + 1) ∧
  (∀ (c : Instr) (s t : State), resets c = false → (∀ a b v w, c ≠ .mtBoundary a b v w) →
    (∀ a b, c ≠ .safeRestart a b) → exec c s = .next t → t.reg R.MG_TICK = s.reg R.MG_TICK)

/-! ### The management port (R67-R84) -/

/-- READ and BURST_READ of addresses in the map with a good CRC are answered with OK, the words read from one snapshot most
significant byte first and the CRC that starts from the request's CRC; the words are held for REREAD, and the RC fields read are
cleared (R69, R71, R79, R80, R81). -/
def Obligations.ReadFramesAreAnswered : Prop :=
  (∀ (s : State) (addr : BitVec 16) (crc : Byte), s.answers = true → addr.toNat < 512 →
    crc8 0 (requestBytes 0x0B addr []) = crc →
    ∃ t, exec (.read addr crc) s = .next t ∧ s.goodRead t addr.toNat 1 4 crc ∧
      t.port.held = some [s.mgmtRead addr.toNat]) ∧
  (∀ (s : State) (addr : BitVec 16) (n crc : Byte), s.answers = true → 1 ≤ n.toNat → n.toNat ≤ 64 →
    addr.toNat + n.toNat ≤ 512 → crc8 0 (requestBytes 0x0C addr [n]) = crc →
    ∃ t, exec (.burstRead addr n crc) s = .next t ∧ s.goodRead t addr.toNat n.toNat 5 crc)

/-- STATUS answers OK with the alert summary, the state byte and the low tick, and changes nothing but MISO; REREAD sends the held
words again and clears nothing, or NO_DATA where none are held (R72, R81). -/
def Obligations.StatusAndRereadAnswer : Prop :=
  (∀ (s : State) (crc : Byte), s.answers = true → crc8 0 [0x05#8] = crc →
    exec (.status crc) s =
      .next { s with port := { s.port with
        miso := [0, 0, 0] ++ responseBytes pOk
          ([BitVec.ofNat 8 s.alertBlocks,
            BitVec.ofNat 8 (b2n (s.bit R.ALERT_SRC 8) + 2 * s.fld R.MG_STATE 2 0 + 16 * b2n (s.bit R.CFG_STATUS 0)
              + 32 * b2n (!s.port.queue.isEmpty) + 64 * b2n (decide (s.fld R.CFG_STATUS 7 4 ≠ 0)))]
            ++ beBytes 2 (s.fld R.MG_TICK 15 0)) crc } }) ∧
  (∀ (s : State) (ws : List Word) (crc : Byte), s.answers = true → s.port.held = some ws → crc8 0 [0x0E#8] = crc →
    exec (.reread crc) s =
      .next { s with port := { s.port with miso := [0, 0, 0] ++ responseBytes pOk (wordBytes ws) crc } }) ∧
  (∀ (s : State) (crc : Byte), s.answers = true → s.port.held = none → crc8 0 [0x0E#8] = crc →
    ∃ t, exec (.reread crc) s = .next t ∧ s.refusedFrame t pNoData 2 [] crc)

/-- WRITE, BURST_WRITE and FIFO_WRITE frames whose words all take queue entries are accepted and their words join the queue in
order, FIFO_WRITE's all to one address (R76, R77). The LOCK code is stated apart. -/
def Obligations.WriteFramesAreQueued : Prop :=
  (∀ (s : State) (addr : BitVec 16) (data : Word) (crc : Byte), s.answers = true → addr.toNat < 512 →
    crc8 0 (requestBytes 0x02 addr (beBytes 4 data.toNat)) = crc →
    s.writeStatus [(addr.toNat, data)] = pOk → takesEntry addr.toNat = true → addr.toNat ≠ R.CFG_CMD →
    ∃ t, exec (.write addr data crc) s = .next t ∧ s.goodWrite t [(addr.toNat, data)] 8 crc) ∧
  (∀ (s : State) (addr : BitVec 16) (n : Byte) (data : List Word) (crc : Byte), s.answers = true → data.length = n.toNat →
    1 ≤ n.toNat → n.toNat ≤ 64 → addr.toNat + n.toNat ≤ 512 →
    crc8 0 (requestBytes 0x0D addr (n :: wordBytes data)) = crc →
    s.writeStatus (burstWords addr.toNat 1 data) = pOk →
    (∀ w ∈ burstWords addr.toNat 1 data, takesEntry w.1 = true ∧ w.1 ≠ R.CFG_CMD) →
    ∃ t, exec (.burstWrite addr n data crc) s = .next t ∧
      s.goodWrite t (burstWords addr.toNat 1 data) (5 + 4 * n.toNat) crc) ∧
  (∀ (s : State) (addr : BitVec 16) (n : Byte) (data : List Word) (crc : Byte), s.answers = true → data.length = n.toNat →
    1 ≤ n.toNat → n.toNat ≤ 64 → addr.toNat < 512 →
    crc8 0 (requestBytes 0x0F addr (n :: wordBytes data)) = crc →
    s.writeStatus (data.map fun w => (addr.toNat, w)) = pOk → takesEntry addr.toNat = true → addr.toNat ≠ R.CFG_CMD →
    ∃ t, exec (.fifoWrite addr n data crc) s = .next t ∧
      s.goodWrite t (data.map fun w => (addr.toNat, w)) (5 + 4 * n.toNat) crc)

/-- What else a WRITE frame does (R76, R78, R89): a reserved address is ignored, an immediate register takes its effect on
acceptance and no entry, and an accepted LOCK sets lock_pending and is queued. A WRITE frame that fails a check of R73 has no
effect but its status: CRC_ERR, BAD_ADDR, RECOVERY, LOCKED and BUSY in that order (R73, R74, R75, R77, R89). -/
def Obligations.WriteFrameOutcomes : Prop :=
  (∀ (s : State) (addr : BitVec 16) (data : Word) (crc : Byte), s.answers = true → addr.toNat < 512 →
    crc8 0 (requestBytes 0x02 addr (beBytes 4 data.toNat)) = crc → s.writeStatus [(addr.toNat, data)] = pOk →
    ∃ t, exec (.write addr data crc) s = .next t ∧
      (isReserved addr.toNat = true → t.port.queue = s.port.queue ∧
        ∀ b, b ≠ R.MG_PORT_STAT → t.reg b = s.reg b) ∧
      (addr.toNat = R.MG_SCRATCH → t.port.queue = s.port.queue ∧ t.reg R.MG_SCRATCH = data ∧
        ∀ b, b ∉ [R.MG_PORT_STAT, R.MG_SCRATCH] → t.reg b = s.reg b) ∧
      (addr.toNat = R.CFG_CMD → field data 15 0 = 0x0C1C →
        t.port.queue = s.port.queue ++ [(R.CFG_CMD, data)] ∧ t.bit R.CFG_STATUS 2 = true ∧
        t.bit R.CFG_STATUS 0 = s.bit R.CFG_STATUS 0 ∧
        ∀ b, b ∉ [R.MG_PORT_STAT, R.CFG_STATUS] → t.reg b = s.reg b)) ∧
  (∀ (s : State) (addr : BitVec 16) (data : Word) (crc : Byte), s.answers = true →
    let good := crc8 0 (requestBytes 0x02 addr (beBytes 4 data.toNat)) = crc
    ∃ t, exec (.write addr data crc) s = .next t ∧
      (¬ good → s.refusedFrame t pCrcErr 8 [] crc) ∧
      (good → 512 ≤ addr.toNat → s.refusedFrame t pBadAddr 8 [] crc) ∧
      (good → addr.toNat < 512 → s.fld R.MG_STATE 2 0 = 1 → isImageReg addr.toNat = false →
        s.refusedFrame t pRecovery 8 [] crc) ∧
      (good → addr.toNat < 512 → s.fld R.MG_STATE 2 0 ≠ 1 → isLockable addr.toNat = true →
        (s.bit R.CFG_STATUS 0 = true ∨ s.bit R.CFG_STATUS 2 = true) → s.refusedFrame t pLocked 8 [] crc) ∧
      (good → addr.toNat < 512 → s.fld R.MG_STATE 2 0 ≠ 1 → s.bit R.CFG_STATUS 0 = false → s.bit R.CFG_STATUS 2 = false →
        takesEntry addr.toNat = true → s.port.queue.length = 64 → s.refusedFrame t pBusy 8 [] crc))

/-- A discarded frame is counted and alerted and has no other effect (R75). After a first byte that is no opcode MISO stays 0x00;
a frame of the wrong length shows what the frame drives up to where MCS_N rises, and 0x00 beyond the expected length (R69). A port
that does not answer leaves MISO high (R84). -/
def Obligations.DiscardedAndUnansweredFrames : Prop :=
  (∀ s : State, s.answers = true →
    (∀ mosi : List Byte, ∃ t, exec (.discardedFrame ⟨.badOpcode, mosi⟩) s = .next t ∧
      t.fld R.MG_PORT_ERR 23 16 = satAt 255 (s.fld R.MG_PORT_ERR 23 16 + 1) ∧ t.bit R.ALERT_PORT 1 = true ∧
      t.port = { s.port with miso := List.replicate mosi.length 0 } ∧ s.sameRegs t [R.MG_PORT_ERR, R.ALERT_PORT] ∧
      t = { s with regs := t.regs, port := t.port }) ∧
    (∀ mosi : List Byte, ∃ t, exec (.discardedFrame ⟨.badLength, mosi⟩) s = .next t ∧
      t.fld R.MG_PORT_ERR 15 8 = satAt 255 (s.fld R.MG_PORT_ERR 15 8 + 1) ∧ t.bit R.ALERT_PORT 1 = true ∧
      t.port.queue = s.port.queue ∧ t.port.held = s.port.held ∧ t.port.miso.length = mosi.length ∧
      (∀ i, i < mosi.length → t.port.miso[i]? = some ((s.frameOf mosi).port.miso.getD i 0)) ∧
      s.sameRegs t [R.MG_PORT_ERR, R.ALERT_PORT] ∧ t = { s with regs := t.regs, port := t.port })) ∧
  (∀ (s : State) (kind : DiscardKind) (mosi : List Byte), s.answers = false →
    exec (.discardedFrame ⟨kind, mosi⟩) s = .next { s with port := { s.port with miso := List.replicate mosi.length 0xFF#8 } }) ∧
  (∀ (s : State) (addr : BitVec 16) (data : Word) (crc : Byte), s.answers = false →
    exec (.read addr crc) s = .next { s with port := { s.port with miso := List.replicate 11 0xFF#8 } } ∧
    exec (.write addr data crc) s = .next { s with port := { s.port with miso := List.replicate 11 0xFF#8 } } ∧
    exec (.status crc) s = .next { s with port := { s.port with miso := List.replicate 9 0xFF#8 } })

/-! ### Resets, the boundary and the configuration registers (R6, R30-R32, R85, R89-R91, R432) -/

/-- MRST_N low for 10 us or more, while the Prilliner is not stopped by VRES, resets the tray: BOOT, the MRST cause alone, every
die in Midnight, the lock and the port's queue and held response gone, Tidemark, waveform SRAM and the twin and host memories
untouched (R85, R432). A shorter level than 9.99 us changes nothing. -/
def Obligations.MrstNResets : Prop :=
  ∀ (lowNs : Nat) (pairSel : Bool) (s : State), (s.pwr.stopped = false ∨ s.pwr.smallHours = true) →
    (10000 ≤ lowNs → ∃ t, exec (.mrstNReset lowNs pairSel) s = .next t ∧
      t.fld R.MG_STATE 2 0 = 0 ∧ t.reg R.MG_RESET_CAUSE = 2 ∧ t.reg R.CFG_STATUS = 0 ∧ t.reg R.CFG_EPOCH = 0 ∧
      t.bit R.ID_STRAPS 0 = pairSel ∧ t.port = { held := none, queue := [], miso := [] } ∧
      (∀ d : Die, t.dies[d].power = 5 ∧ t.dies[d].t0 = [] ∧ t.dies[d].cfg = s.dies[d].cfg) ∧
      t.tm.cells = s.tm.cells ∧ t.pnl.wave = s.pnl.wave ∧ t.pending = s.pending) ∧
    (lowNs < 9990 → exec (.mrstNReset lowNs pairSel) s = .next s)

/-- POWER_ON_RESET leaves every register at its reset value but the strap, every die in Midnight and the raster at 0:0.0;
Tidemark, the image store and what lies outside the tray survive (R10, R28, R54, R432). -/
def Obligations.PowerOnResets : Prop :=
  ∀ (pairSel : Bool) (s : State), ∃ t, exec (.powerOnReset pairSel) s = .next t ∧
    (∀ a, a ≠ R.ID_STRAPS → t.reg a = if a < 512 then resetWord a else 0) ∧ t.bit R.ID_STRAPS 0 = pairSel ∧
    t.dies = State.reset.dies ∧ t.pf = State.reset.pf ∧ t.port = State.reset.port ∧ t.pnl = State.reset.pnl ∧
    t.ras.frame = 0 ∧ t.ras.line = 0 ∧ t.ras.lineAt = fineOfTick s.now ∧ t.tm.cells = s.tm.cells ∧
    t.img.fwActive = s.img.fwActive ∧ t.img.ucActive = s.img.ucActive ∧ t.ext = s.ext ∧ t.pending = s.pending

/-- An mt boundary applies every pending write, in READY or SAFE (R30, R32, R77): the queue is empty after it. In BOOT without
firmware, and in RECOVERY, only the tick counts and PF_STATUS and ALERT_N follow; while the Prilliner has stopped nothing does. -/
def Obligations.BoundaryEmptiesTheWriteQueue : Prop :=
  ∀ (t trayPower : Nat) (diePower : Vector Nat 4) (stopOk : Vector Bool 4) (s : State),
    ∃ u, exec (.mtBoundary t trayPower diePower stopOk) s = .next u ∧
      (s.pwr.stopped = true → u = { s with now := max s.now t }) ∧
      (s.pwr.stopped = false → s.saf.restart ≠ 0 →
        u = { s with now := max s.now t, regs := s.regs.setIfInBounds R.MG_TICK (s.reg R.MG_TICK + 1) }) ∧
      (s.prilRuns = true → u.port = { s.port with queue := [] }) ∧
      (s.pwr.stopped = false → s.saf.restart = 0 → s.fld R.MG_STATE 2 0 = 1 → s.img.booted = false →
        u.port = s.port ∧ u.dies = s.dies ∧ u.reg R.MG_TICK = s.reg R.MG_TICK + 1 ∧ s.sameRegs u [R.MG_TICK, R.ALERT_SRC])

/-- COMMIT raises the epoch, skipping 0 on a wrap, snapshots the digest, clears dirty, sends the epoch to every die and sets
quiesce_pending of each powered die (R90, R91). -/
def Obligations.CommitRaisesTheEpoch : Prop :=
  ∀ s : State, s.prilRuns = true →
    let e : Word := if s.reg R.CFG_EPOCH = 0xFFFFFFFF#32 then 1 else s.reg R.CFG_EPOCH + 1
    ∃ t, exec .commit s = .next t ∧
      t.reg R.CFG_EPOCH = e ∧
      t.reg R.CFG_DIGEST_LO = s.digestNow.setWidth 32 ∧ t.reg R.CFG_DIGEST_HI = (s.digestNow >>> 32).setWidth 32 ∧
      t.bit R.CFG_STATUS 1 = false ∧ t.bit R.CFG_STATUS 0 = s.bit R.CFG_STATUS 0 ∧
      (∀ d : Die, t.bit R.CFG_STATUS (4 + d.val) = (decide (s.dies[d].power < 5) || s.bit R.CFG_STATUS (4 + d.val)) ∧
        t.dies[d] = { s.dies[d] with msgs := t.dies[d].msgs } ∧ t.dies[d].msgs.getLast? = some (.epoch e)) ∧
      s.sameRegs t [R.CFG_EPOCH, R.CFG_DIGEST_LO, R.CFG_DIGEST_HI, R.CFG_STATUS] ∧
      t = { s with regs := t.regs, dies := t.dies, pf := t.pf }

/-- An accepted LOCK sets lock_pending; at the boundary at which it is applied locked sets (R89). QUIESCE_REPORT clears the
quiesce_pending bit of a powered die that has acted on the newest epoch and whose stale queues have no command in execution (R90,
R187). -/
def Obligations.LockAndQuiesce : Prop :=
  (∀ s : State, s.prilRuns = true →
    (∃ t, exec (.lock false) s = .next t ∧ t.bit R.CFG_STATUS 2 = true ∧
      (∀ i, i ≠ 2 → t.bit R.CFG_STATUS i = s.bit R.CFG_STATUS i) ∧ s.regsOnly t [R.CFG_STATUS]) ∧
    (∃ t, exec (.lock true) s = .next t ∧ t.bit R.CFG_STATUS 0 = true ∧ t.bit R.CFG_STATUS 2 = false ∧
      (∀ i, i ≠ 0 → i ≠ 2 → t.bit R.CFG_STATUS i = s.bit R.CFG_STATUS i) ∧ s.regsOnly t [R.CFG_STATUS])) ∧
  (∀ (d : Die) (s : State), s.dies[d].power < 5 → s.dies[d].cmdBlk[4] = s.reg R.CFG_EPOCH → s.quiesced d = true →
    ∃ t, exec (.quiesceReport d) s = .next t ∧ t.bit R.CFG_STATUS (4 + d.val) = false ∧
      (∀ i, i ≠ 4 + d.val → t.bit R.CFG_STATUS i = s.bit R.CFG_STATUS i) ∧ s.regsOnly t [R.CFG_STATUS])

/-- A register write acts by the access codes of its fields (R6): RW fields of MG_SCRATCH, ALERT_MASK and THM_CH_SEL take the
value, a 1 clears a W1C bit of an alert register and a 0 leaves it, a read-only register does not change, and after the lock a
register with RWL fields does not either. -/
def Obligations.RegisterWritesFollowAccessCodes : Prop :=
  ∀ (s : State) (val : Word), s.prilRuns = true →
    (∀ p ∈ [(R.MG_SCRATCH, 0xFFFFFFFF#32), (R.ALERT_MASK, 0xFF#32), (R.THM_CH_SEL, 0x1FF#32)],
      ∃ t, exec (.registerWrite .mgmt p.1 val) s = .next t ∧ t.reg p.1 = (s.reg p.1 &&& ~~~p.2) ||| (val &&& p.2) ∧
        s.sameRegs t [p.1] ∧ t = { s with regs := t.regs, freeCtr := s.freeCtr + 1 }) ∧
    (∀ p ∈ [(R.ALERT_PORT, 0x1F#32), (R.SUP_ALERT, 0x3F#32), (R.PAIR_ALERT, 0x1FFF#32), (R.SAF_ALERT, 0x3F#32)],
      ∃ t, exec (.registerWrite .mgmt p.1 val) s = .next t ∧ t.reg p.1 = s.reg p.1 &&& ~~~(val &&& p.2) ∧
        s.sameRegs t [p.1] ∧ t = { s with regs := t.regs, freeCtr := s.freeCtr + 1 }) ∧
    (∀ a ∈ [R.ID_DEVICE, R.MG_STATE, R.MG_TICK, R.CFG_EPOCH, R.SAF_STATE],
      exec (.registerWrite .mgmt a val) s = .next { s with freeCtr := s.freeCtr + 1 }) ∧
    (∀ a, isLockable a = true → s.bit R.CFG_STATUS 0 = true →
      exec (.registerWrite .mgmt a val) s = .next { s with freeCtr := s.freeCtr + 1 })

/-- A write of a BAR0 register acts on arrival where the function is reachable (R6, R419, R424): INT_MASK of a die and PF_INT_MASK
take the value, INT_STATUS bits clear by 1. An unaligned write is ignored, and a function out of reach leaves an error at its port
alone (R415, R419). A host read of a BAR0 register answers its value, and clears its RC fields: here MEM_CE_COUNT of a die (R8).
-/
def Obligations.Bar0AccessesActOnArrival : Prop :=
  ((∀ (d : Die) (s : State) (val : Word), s.reachable (.die d) = true →
    exec (.registerWrite (.bar0 (.die d)) 0x24 val) s =
      .next (s.modDie d fun x => { x with linkBlk := x.linkBlk.set 9 (val &&& 0x1FF#32) }) ∧
    exec (.registerWrite (.bar0 (.die d)) 0x20 val) s =
      .next (s.modDie d fun x => { x with linkBlk := x.linkBlk.set 8 (x.linkBlk[8] &&& ~~~(val &&& 0x1FF#32)) })) ∧
  (∀ (s : State) (val : Word), s.reachable .pf = true →
    exec (.registerWrite (.bar0 .pf) 0x0C val) s = .next { s with pf := { s.pf with intMask := val &&& 0x1F#32 } }) ∧
  (∀ (fn : Fn) (o : Nat) (s : State) (val : Word), s.reachable fn = true → o % 4 ≠ 0 →
    exec (.registerWrite (.bar0 fn) o val) s = .next s) ∧
  (∀ (d : Die) (o : Nat) (s : State) (val : Word), s.reachable (.die d) = false → ∃ t,
    exec (.registerWrite (.bar0 (.die d)) o val) s = .next t ∧ s.dieOnly t d ∧
      t.dies[d] = { s.dies[d] with cfg := t.dies[d].cfg })) ∧
  ((∀ (d : Die) (s : State), s.reachable (.die d) = true →
    exec (.bar0RcRead (.die d) 0x3014) s =
      .next ((s.modDie d fun x => { x with memBlk := x.memBlk.set 5 0 }).respond (.ok (leBytes 4 s.dies[d].memBlk[5].toNat)))) ∧
  (∀ (s : State), s.reachable .pf = true →
    exec (.bar0RcRead .pf 0x08) s = .next (s.respond (.ok (leBytes 4 s.pf.intStatus.toNat)))) ∧
  (∀ (d : Die) (off : Nat) (s : State), s.switchOn = true → s.reachable (.die d) = false →
    ∃ t, exec (.bar0RcRead (.die d) off) s = .next t ∧ t.out = { s.out with resp := .ur }))

/-! ### Raster time (R43-R66) -/

/-- A selected LINE_REF edge while LOCKED is judged by its interval (R45, R47): from 7/8 of the period on it is accepted and
restarts the measurement of the line; before 7/8 it is a glitch, counted and otherwise ignored. In UNLOCKED the first edge starts
the acquisition (R55). A selected FRAME_REF edge while LOCKED, within a quarter period after an accepted LINE_REF edge, confirms
line 0 or is a frame error (R45, R48). A line without an edge by 9/8 of its period is missing: it is counted and its expected time
stands for the edge (R47). A reference that stays away four periods, or two frames without FRAME_REF, is lost: HOLDOVER (R60,
R61). A reference that stops while it is acquired returns the tracker to HOLDOVER or UNLOCKED (R62). -/
def Obligations.ReferenceEdgesAreJudged : Prop :=
  (∀ (t : Nat) (e : EdgeDir) (s : State), s.tracks = true → s.now ≤ t →
    (decide (e = .falling) == s.bit R.RAS_CTRL 4) = true →
    (s.rasState = 2 → s.ras.pairSlew = 0 → s.ras.due = none → 8 * fineOfTick t < 8 * s.ras.refAt + 7 * s.ras.per →
      ∃ u, exec (.lineRefEdge t e) s = .next u ∧
        u.fld R.RAS_GLITCH 15 0 = satAt 65535 (s.fld R.RAS_GLITCH 15 0 + 1) ∧ s.sameRegs u [R.RAS_GLITCH] ∧
        u = { s with now := t, regs := u.regs }) ∧
    (s.rasState = 2 → s.ras.pairSlew = 0 → s.ras.due = none → 8 * s.ras.refAt + 7 * s.ras.per ≤ 8 * fineOfTick t →
      8 * fineOfTick t < 8 * s.ras.refAt + 9 * s.ras.per → s.ras.frameRefAt = none →
      ∃ u, exec (.lineRefEdge t e) s = .next u ∧ u.ras.lastAccepted = t ∧ u.ras.refAt = fineOfTick t ∧ u.ras.missRun = 0 ∧
        u.dies = s.dies ∧ u.port = s.port) ∧
    (s.rasState = 0 → s.bit R.RAS_STATUS 5 = false →
      ∃ u, exec (.lineRefEdge t e) s = .next u ∧ u.rasState = 1 ∧ u.ras.acq.step = 1 ∧ u.ras.acq.lastEdge = some t ∧
        u.bit R.ALERT_RAS 0 = true)) ∧
  (∀ (t : Nat) (e : EdgeDir) (s : State), s.tracks = true → s.now ≤ t →
    (decide (e = .falling) == s.bit R.RAS_CTRL 3) = true → s.rasState = 2 → s.ras.pairSlew = 0 → s.ras.due = none →
    s.ras.missRun = 0 → afterEdge t s.ras.lastAccepted s.ras.per = true →
    ∃ u, exec (.frameRefEdge t e) s = .next u ∧ u.ras.linesSinceFrameRef = 0 ∧ u.ras.frameRefSeen = true ∧
      (s.ras.line = 0 → u = { s with now := t, ras := u.ras } ∧ u.ras.errRun = 0) ∧
      (s.ras.line ≠ 0 → u.fld R.RAS_GLITCH 31 16 = satAt 65535 (s.fld R.RAS_GLITCH 31 16 + 1) ∧
        u.ras.errRun = s.ras.errRun + 1)) ∧
  ((∀ (t : Nat) (s : State), s.tracks = true → s.now ≤ t → s.rasState = 2 → s.ras.pairSlew = 0 → s.ras.due = none →
    s.lineIsMissing t = true →
    ∃ u, exec (.lineMissing t) s = .next u ∧ u.fld R.RAS_GLITCH 15 0 = satAt 65535 (s.fld R.RAS_GLITCH 15 0 + 1) ∧
      u.ras = { s.ras with refAt := s.ras.refAt + s.ras.per, missRun := s.ras.missRun + 1,
                           due := some (s.ras.refAt + s.ras.per + s.ras.phase, s.ras.lateFrac),
                           linesSinceFrameRef := s.ras.linesSinceFrameRef + 1 } ∧
      s.sameRegs u [R.RAS_GLITCH] ∧ u = { s with now := t, regs := u.regs, ras := u.ras }) ∧
  (∀ (t : Nat) (s : State), s.tracks = true → s.now ≤ t → (s.rasState = 2 ∨ s.rasState = 4) →
    (fineOfTick s.ras.lastAccepted + 4 * s.ras.per ≤ fineOfTick (t + 1) ∨ 2 ≤ s.ras.noRefFrames) →
    ∃ u, exec (.referenceLoss t) s = .next u ∧ u.rasState = 3 ∧ u.ras.held = true ∧ u.reg R.RAS_HOLD = 0 ∧
      u.bit R.ALERT_RAS 0 = true) ∧
  (∀ (t : Nat) (s : State), s.tracks = true → s.now ≤ t → s.rasState = 1 → s.refStopped t = true →
    ∃ u, exec (.referenceStop t) s = .next u ∧ u.rasState = (if s.ras.held then 3 else 0) ∧ u.ras.acq = Acq.idle ∧
      u.ras.jump = none ∧ s.sameRegs u [R.RAS_STATUS, R.ALERT_RAS]))

/-- A line that is due starts and its pulse leaves with the line's raster time (R49, R50, R57); the last line of a frame is
followed by line 0 of the next. A pulse that a die above Midnight has not taken yet sets its counter, to the pulse's time within 2 ns,
with the generation; one already taken, or sent before the die was powered, changes nothing (R57, R59). A mark on
the pulse bus is counted by the commands that wait at step 2 and by the eligible ones of a die that has had a pulse; a WAIT that is
satisfied when the mark that completes its limit arrives does not run out (R30, R175, R197). -/
def Obligations.LinesPulsesAndMarks : Prop :=
  (∀ (t : Nat) (s : State), s.pwr.stopped = false → s.now ≤ t → s.freeRuns = true → s.lineEnd < fineOfTick (t + 1) →
    s.ras.pairSlew = 0 → s.ras.pairJump = none →
    let wrap := decide (s.lines ≤ s.ras.line + 1)
    let line := if wrap then 0 else s.ras.line + 1
    let frame := if wrap then s.ras.nextFrame.1 else s.ras.frame
    ∃ u, exec (.trayLineStart t) s = .next u ∧ u.ras.line = line ∧ u.ras.frame = frame ∧ u.ras.lineAt = s.lineEnd ∧
      u.ras.pulse = mkStamp frame line 0 ∧ u.ras.pulses = s.ras.pulses + 1 ∧ u.ras.pulseAt = s.lineEnd ∧ u.dies = s.dies ∧ u.port = s.port) ∧
  ((∀ (d : Die) (s : State), s.dies[d].power < 5 → s.dies[d].rasSeen = s.ras.pulses → exec (.rasterPulse d) s = .next s) ∧
  (∀ (d : Die) (s : State), s.dies[d].power < 5 → s.dies[d].rasSeen ≠ s.ras.pulses →
    ∃ u, exec (.rasterPulse d) s = .next u ∧ u.dies[d].rasValid = true ∧ u.dies[d].ras = s.ras.pulse ∧
      u.dies[d].rasSeen = s.ras.pulses ∧ s.ras.pulseAt ≤ u.dies[d].rasAt ∧ u.dies[d].rasAt ≤ s.ras.pulseAt + 2048 ∧
      u.dies[d].rasGen = s.fld R.RAS_GEN 15 0 ∧ u.dies[d].t0 = s.dies[d].t0 ∧ u.dies[d].t1 = s.dies[d].t1 ∧
      (∀ e : Die, e ≠ d → u.dies[e] = s.dies[e]) ∧ s.sameRegs u [R.RAS_SKEW] ∧
      u = { s with regs := u.regs, dies := u.dies, freeCtr := u.freeCtr }) ∧
  (∀ (d : Die) (s : State), s.dies[d].power < 5 → s.dies[d].rasValid = true →
    ∃ u, exec (.mtMark d) s = .next u ∧ s.dieOnly u d ∧ u.dies[d] = { s.dies[d] with queues := u.dies[d].queues } ∧
      ∀ q : QIdx, u.dies[d].queues[q] = { s.dies[d].queues[q] with live := s.dies[d].queues[q].live.map fun l =>
        match l.phase with
        | .waiting =>
          if l.marks + 1 = s.dies[d].queues[q].waitTimeout ∧ ((header l.bytes).waitObj = 511 ∨
              s.waitState (.die d) (header l.bytes).waitObj (header l.bytes).waitValue = some true) then l
          else { l with marks := l.marks + 1 }
        | .eligible => { l with ageMarks := l.ageMarks + 1 }
        | _ => l }))

/-- A mode other than the one in force cuts the frame: the next frame starts at once in the mode's geometry and state, and RAS_GEN
rises (R53, R54). PACED parameters outside the limits are rejected with their alert; within them they are taken, without effect on
the raster outside PACED (R46, R53). SET_FRAME takes a preset greater than F + 1 and rejects any other (R65). ACCEPT_GEOM is kept
only while rate_mismatch is set (R62). -/
def Obligations.RasterModesAndCommands : Prop :=
  (∀ (mode : BitVec 2) (s : State), mode ≠ 3 → mode.toNat ≠ s.rasMode →
    ∃ u, exec (.rasModeChange mode) s = .next u ∧ u.rasMode = mode.toNat ∧
      u.rasState = (if mode = 1 then 5 else if mode = 2 then 6 else 0) ∧
      u.lines = (if mode = 1 then s.fld R.RAS_PACE_LINES 11 0 else 1000) ∧
      u.ras.line = 0 ∧ u.ras.frame = s.ras.nextFrame.1 ∧ u.ras.lineAt = fineOfTick s.now ∧
      u.fld R.RAS_GEN 15 0 = (s.fld R.RAS_GEN 15 0 + 1) % 65536 ∧
      s.sameRegs u [R.RAS_CTRL, R.RAS_GEN, R.RAS_LINES, R.RAS_STATUS, R.ALERT_RAS] ∧ u.dies = s.dies) ∧
  ((∀ (period : Word) (lines : BitVec 12) (s : State),
    (paceOk period.toNat lines.toNat = true → s.rasMode ≠ 1 →
      ∃ u, exec (.paceParamChange period lines) s = .next u ∧ u.reg R.RAS_PACE_PERIOD = period ∧
        u.fld R.RAS_PACE_LINES 11 0 = lines.toNat ∧ s.regsOnly u [R.RAS_PACE_PERIOD, R.RAS_PACE_LINES]) ∧
    (paceOk period.toNat lines.toNat = false →
      ∃ u, exec (.paceParamChange period lines) s = .next u ∧ u.bit R.RAS_STATUS 7 = true ∧ u.bit R.ALERT_RAS 5 = true ∧
        s.regsOnly u [R.RAS_STATUS, R.ALERT_RAS])) ∧
  (∀ s : State,
    let p := (s.reg R.RAS_FRAME_PRESET_LO).toNat + s.fld R.RAS_FRAME_PRESET_HI 7 0 * 2 ^ 32
    (s.ras.frame + 1 < p → exec .setFrame s = .next { s with ras := { s.ras with preset := some p } }) ∧
    (p ≤ s.ras.frame + 1 → ∃ u, exec .setFrame s = .next u ∧ u.bit R.RAS_STATUS 8 = true ∧ u.bit R.ALERT_RAS 6 = true ∧
      s.regsOnly u [R.RAS_STATUS, R.ALERT_RAS])) ∧
  (∀ s : State, exec .acceptGeom s =
    .next (if s.bit R.RAS_STATUS 5 then { s with ras := { s.ras with acceptGeom := true } } else s)))

/-! ### Supply (R95-R103) -/

/-- A supply sample extends or restarts the runs that the comparators count, joins the last sixteen, sets undervoltage and
overvoltage, and keeps the lowest bus value (R96, R97, R363). It changes no die and no memory. -/
def Obligations.SupplySamplesAreCounted : Prop :=
  ∀ (v i r : Nat) (s : State), s.monitorRuns = true →
    ∃ t, exec (.supplySample v i r) s = .next t ∧
      t.sup.belowWarn = (if v < s.warnLevel then s.sup.belowWarn + 1 else 0) ∧
      t.sup.aboveWarn = (if s.warnLevel + 100 ≤ v then s.sup.aboveWarn + 1 else 0) ∧
      t.sup.belowReset = (if v < s.resetLevel then s.sup.belowReset + 1 else 0) ∧
      t.sup.aboveReset = (if s.resetLevel + 100 ≤ v then s.sup.aboveReset + 1 else 0) ∧
      t.sup.atOv = (if 5800 ≤ v then s.sup.atOv + 1 else 0) ∧ t.sup.vbus = (v :: s.sup.vbus).take 16 ∧
      t.bit R.SUP_STATUS 3 = decide (v < 4400) ∧ t.bit R.SUP_STATUS 4 = decide (5600 < v) ∧
      t.fld R.HV_VRES 15 0 = satAt 65535 r ∧ t.fld R.SUP_MIN_VBUS 15 0 = min (s.fld R.SUP_MIN_VBUS 15 0) v ∧
      s.sameRegs t [R.SUP_STATUS, R.SUP_ALERT, R.SUP_VBUS, R.SUP_IBUS, R.HV_VRES, R.SUP_MIN_VBUS, R.HV_STATUS] ∧
      t = { s with regs := t.regs, sup := t.sup, pf := t.pf }

/-- Twenty consecutive samples below the level assert SAG_WARN: sag_warn sets, the count rises, ALERT_N is driven low at once
(R97, R98, R87); twenty samples 1 V above it release it (R97). SAG_RESET and the overvoltage reset put every die in Midnight at
once and hold it (R96, R99, R101). The release of the last supply reset: reset and on_vres clear, the recovery alert and cause are
set and every target reads Midnight (R96, R97, R102); a reset whose samples are too few, or whose comparator failed its self-test,
stays. VRES below 6.0 V stops the Prilliner and drops an entry to Small hours that was under way; a Tidemark record being written then leaves each of its
slots old, new or with a wrong CRC, and every other byte as it was (R100, R135). -/
def Obligations.SupplyLevelsAct : Prop :=
  ((∀ s : State, s.monitorRuns = true → 20 ≤ s.sup.belowWarn → s.bit R.SUP_STATUS 0 = false →
    ∃ t, exec .sagWarn s = .next t ∧ t.bit R.SUP_STATUS 0 = true ∧
      t.fld R.SUP_EVENTS 15 0 = satAt 65535 (s.fld R.SUP_EVENTS 15 0 + 1) ∧ t.bit R.SUP_ALERT 0 = true ∧
      t.bit R.ALERT_SRC 8 = true ∧ t.pins.alertN = false ∧ t.dies = s.dies) ∧
  (∀ s : State, s.monitorRuns = true → 20 ≤ s.sup.aboveWarn →
    ∃ t, exec .sagWarnRelease s = .next t ∧ t.bit R.SUP_STATUS 0 = false ∧
      (∀ i, i ≠ 0 → t.bit R.SUP_STATUS i = s.bit R.SUP_STATUS i) ∧ s.regsOnly t [R.SUP_STATUS])) ∧
  ((∀ s : State, s.monitorRuns = true → 20 ≤ s.sup.belowReset → s.sup.sagOn = false →
    ∃ t, exec .sagReset s = .next t ∧ t.bit R.SUP_STATUS 1 = true ∧ t.sup.sagOn = true ∧ t.sup.ovOn = s.sup.ovOn ∧
      t.bit R.SUP_ALERT 1 = true ∧ t.pins.alertN = false ∧ t.bit R.PWR_STATE 24 = true ∧
      (∀ d : Die, t.dies[d].power = 5 ∧ t.dies[d].t0 = [] ∧ t.pwr.stopLines[d] = true) ∧
      (t.tm.pend.map TmEvent.kind) = s.tm.pend.map TmEvent.kind ++ [kSupply] ∧ t.tm.cells = s.tm.cells) ∧
  (∀ s : State, s.monitorRuns = true → 20 ≤ s.sup.atOv → s.sup.ovOn = false →
    ∃ t, exec .overvoltageReset s = .next t ∧ t.bit R.SUP_STATUS 1 = true ∧ t.bit R.SUP_STATUS 2 = true ∧ t.sup.ovOn = true ∧
      t.sup.sagOn = s.sup.sagOn ∧ t.bit R.SUP_ALERT 1 = true ∧ t.pins.alertN = false ∧
      (∀ d : Die, t.dies[d].power = 5 ∧ t.dies[d].t0 = [] ∧ t.pwr.stopLines[d] = true) ∧ t.tm.cells = s.tm.cells)) ∧
  ((∀ s : State, s.monitorRuns = true → s.bit R.SUP_STATUS 1 = true → s.sup.sagOn = true → s.sup.ovOn = false →
    s.saf.failedMonitors = [] →
    (20 ≤ s.sup.aboveReset → ∃ t, exec .sagResetRelease s = .next t ∧ t.sup.sagOn = false ∧ t.bit R.SUP_STATUS 1 = false ∧
      t.bit R.SUP_STATUS 5 = false ∧ t.bit R.SUP_ALERT 4 = true ∧ t.reg R.MG_RESET_CAUSE = 4 ∧
      (∀ d : Die, t.pwrTarget d = 5 ∧ t.pwr.request[d] = none) ∧ t.bit R.PWR_STATE 24 = true ∧ t.dies = s.dies) ∧
    (s.sup.aboveReset < 20 → ∃ t, exec .sagResetRelease s = .next t ∧ t.sup.sagOn = true ∧ t.bit R.SUP_STATUS 1 = true ∧
      s.sameRegs t [R.SUP_STATUS] ∧ t.dies = s.dies)) ∧
  (∀ s : State, s.onVres = true → s.fld R.HV_VRES 15 0 < 600 → s.tm.cells.wf = true →
    ∃ t, exec .vresCollapse s = .next t ∧
      t = { s with pwr := { s.pwr with stopped := true, smallHours := false, entering := false },
                   freeCtr := t.freeCtr, tm := { s.tm with cells := t.tm.cells } } ∧
      (s.tm.pend = [] → t.tm.cells = s.tm.cells) ∧
      (∀ a, ¬ (128 * s.nextRecord ≤ a ∧ a < 128 * s.nextRecord + 128) → t.tm.cells.read a = s.tm.cells.read a) ∧
      (∀ e rest, s.tm.pend = e :: rest → ∀ k, k < 2 →
        t.tm.slot s.nextRecord k = s.tm.slot s.nextRecord k ∨
        t.tm.slot s.nextRecord k = slotBytes e s.tm.nextSeq s.tm.cardFlag ∨ slotOk (t.tm.slot s.nextRecord k) = false)))

/-! ### Power states (R104-R113, R442, R443, R446) -/

/-- A request for a deeper or shallower state of a die above Midnight, with no protective state and no failed raise, is sent to
the die and stays pending until the die reports it (R106, R107). A target beyond the table, or under a protective state, has no
effect (R113). A raise from Midnight whose stop-line test passes starts the die (R403, R442); one that SAG_WARN holds waits (R98).
A die that reaches Midnight has lost its memory, queues and registers; one that reaches Night has lost tier 0 but not tier 1
(R104, R105, R161, R189). A raise that repair cannot save leaves the die in Midnight with its location reported (R443). -/
def Obligations.PowerStatesAreRequestedAndReached : Prop :=
  (∀ (d : Die) (target : BitVec 3) (ok : Bool) (s : State), s.prilRuns = true →
    ((s.protective = true ∨ 5 < target.toNat) → exec (.powerStateRequest d target ok) s = .next s) ∧
    (s.protective = false → target.toNat ≤ 5 → s.pwr.raiseFailed[d] = false → s.dies[d].power < 5 →
      target.toNat ≠ s.dies[d].power →
      ∃ t, exec (.powerStateRequest d target ok) s = .next t ∧ t.pwrTarget d = target.toNat ∧
        t.pwr.request[d] = some target.toNat ∧ t.bit R.PWR_STATE (20 + d.val) = true ∧
        t.dies[d] = { s.dies[d] with msgs := s.dies[d].msgs ++ [.power target.toNat] } ∧
        s.sameRegs t [R.PWR_CTRL, R.PWR_STATE] ∧ t = { s with regs := t.regs, pwr := t.pwr, dies := t.dies }) ∧
    (s.protective = false → target.toNat < 5 → s.pwr.raiseFailed[d] = false → s.dies[d].power = 5 →
      s.dies[d].moving = none →
      (s.bit R.SUP_STATUS 0 = false → s.pwr.ucodeOk = true → ok = true →
        ∃ t, exec (.powerStateRequest d target ok) s = .next t ∧
          t.dies[d] = { s.dies[d] with moving := some (target.toNat, true) } ∧ t.pwr.request[d] = some target.toNat ∧
          t.bit R.SAF_DIAG (3 + d.val) = true) ∧
      (s.bit R.SUP_STATUS 0 = true →
        ∃ t, exec (.powerStateRequest d target ok) s = .next t ∧ t.dies = s.dies ∧ t.pwr.request[d] = some target.toNat ∧
          t.bit R.PWR_ALERT 3 = true))) ∧
  ((∀ (d : Die) (s : State) (driven : Bool), s.dies[d].moving = some (5, driven) → s.dies[d].power < 5 →
    ∃ t, exec (.powerStateReached d .ok) s = .next t ∧ t.dies[d].power = 5 ∧ t.dies[d].t0 = [] ∧ t.dies[d].t1 = [] ∧
      t.dies[d].pcieUp = false ∧ (∀ q : QIdx, (t.dies[d].queues[q]).state = 0) ∧
      t.dies[d].events.getLast? = some (.stateReached 5 driven)) ∧
  (∀ (d : Die) (s : State) (c : Fin 128) (l : Nat), s.dies[d].power = 5 → s.dies[d].moving = some (0, true) →
    ∃ t, exec (.powerStateReached d (.repairTier0 (some c) l)) s = .next t ∧ t.dies[d].power = 5 ∧ t.dies[d].moving = none ∧
      t.pwr.raiseFailed[d] = true ∧ t.pwr.request[d] = none ∧
      t.dies[d].events = s.dies[d].events ++ [.raiseFailed (s.locCore d.val c.val 4 (l % 256))] ∧
      (∀ e : Die, e ≠ d → t.dies[e] = s.dies[e]) ∧ t.regs = s.regs) ∧
  (∀ (d : Die) (s : State), s.dies[d].power = 3 → s.dies[d].moving = some (4, true) → s.dies[d].msgs = [] →
    s.dies[d].doorbellHeld = false →
    ∃ t, exec (.powerStateReached d .ok) s = .next t ∧ t.dies[d].power = 4 ∧ t.dies[d].moving = none ∧ t.dies[d].t0 = [] ∧
      t.dies[d].t1 = s.dies[d].t1 ∧ t.dies[d].events = s.dies[d].events ++ [.stateReached 4 true]))

/-- Small hours are entered when PWR_CTRL.sleep is set, every die is in Midnight with target Midnight, no panel frame is scanned
and no pair is accepted (R446); the end of the entry stops the Prilliner, unless a wake source came first or an update slot is
active (R350, R446). A die that woke itself, or may idle on its own, returns
when idle (R109). The wake sources wake the tray from Small hours to Midnight and record themselves: PERST_N 2, the wake timer 4,
MCS_N 5 (R84, R108, R111, R446); after PERST_N's rise the upstream link has one of the speeds and widths that
it can train to (R413); which one is free (assumption log 62). -/
def Obligations.SleepIdleAndWake : Prop :=
  ((∀ s : State, s.prilRuns = true → s.bit R.PWR_CTRL 16 = true → s.pwr.entering = false → s.accepted = false →
    s.allMidnight = true → s.scanning = false →
    exec .sleep s = .next { s with pwr := { s.pwr with entering := true } }) ∧
  (∀ s : State, (s.pwr.entering = false ∨ s.pwr.wakeSrc ≠ none ∨ s.scanning = true) → exec .sleepEntryDone s = .next s) ∧
  (∀ s : State, s.pwr.entering = true → s.pwr.wakeSrc = none → s.scanning = false →
    ∃ t, exec .sleepEntryDone s = .next t ∧ t.pwr.stopped = true ∧ t.pwr.smallHours = true ∧ t.pwr.entering = false ∧
      t.fld R.PWR_STATE 18 16 = 6 ∧ s.sameRegs t [R.PWR_STATE] ∧
      t = { s with regs := t.regs, pwr := t.pwr, pair := t.pair, ras := { s.ras with stopAt := s.now } }) ∧
  (∀ (d : Die) (s : State), s.dies[d].power = 0 → s.dies[d].moving = none → s.dieIdle d = true →
    (s.dies[d].selfWoken = true → (s.pwrTarget d = 1 ∨ s.pwrTarget d = 2) →
      exec (.idleReturn d) s = .next (s.modDie d fun x => { x with moving := some (s.pwrTarget d, false) })) ∧
    (s.pwrTarget d = 0 → s.dies[d].autoIdle = true →
      exec (.idleReturn d) s = .next (s.modDie d fun x => { x with moving := some (1, false) })))) ∧
  (∀ s : State, s.pwr.smallHours = true →
    (∃ t, exec .mcsNWake s = .next t ∧ t.pwr.stopped = false ∧ t.pwr.smallHours = false ∧ t.reg R.PWR_WAKE_SRC = 5 ∧
      t.bit R.PWR_CTRL 16 = false ∧ t.bit R.PWR_ALERT 1 = true ∧ t.bit R.ALERT_PORT 4 = true ∧ t.ras.line = 0 ∧
      t.dies = s.dies) ∧
    (s.fld R.PWR_WAKE_EN 31 16 ≠ 0 → ∃ t, exec .wakeTimerExpiry s = .next t ∧ t.pwr.smallHours = false ∧
      t.reg R.PWR_WAKE_SRC = 4 ∧ t.bit R.PWR_ALERT 1 = true) ∧
    (s.fld R.PWR_WAKE_EN 31 16 = 0 → exec .wakeTimerExpiry s = .next s) ∧
    (s.pins.perstN = false → s.bit R.PWR_WAKE_EN 1 = true → ∃ t,
      exec .perstNRise s = .next t ∧ t.pins.perstN = true ∧ t.pwr.smallHours = false ∧ t.reg R.PWR_WAKE_SRC = 2 ∧
      1 ≤ t.sw.upSpeed ∧ t.sw.upSpeed ≤ 6 ∧ t.sw.upWidth ∈ [16, 8, 4, 1]))

/-! ### Thermal (R115-R136, R431) -/

/-- A thermal scan takes the raw code of every channel of its group and counts the scan (R116, R119); channels of the other groups
keep theirs. The second consecutive valid reading at or above the trip threshold latches the trip: ALERT_N low at once and every
die in Midnight (R127). THM_SAMPLE's extra scans read every channel once and report it; they are not counted as scans (R122). -/
def Obligations.ThermalScansAndSamples : Prop :=
  (∀ (t : Nat) (g : Fin 5) (codes : List (BitVec 10)) (bad : List LineFail) (s : State), s.samples = true → s.now ≤ t →
    codes.length = Machine.groupSize g → s.saf.failedMonitors = [] →
    ∃ u, exec (.thermalScan t g codes bad) s = .next u ∧
      (∀ i, i < Machine.groupSize g → (u.chan (groupBase g + i)).raw = (codes.getD i 0).toNat) ∧
      (u.group g).scans = (s.group g).scans + 1 ∧
      (∀ c, ¬ (groupBase g ≤ c ∧ c < groupBase g + Machine.groupSize g) → u.chan c = s.chan c) ∧
      (∀ i, i < Machine.groupSize g → groupBase g + i ≠ 264 → s.bit R.THM_STATUS 4 = false → (s.group g).failed = [] →
        ((s.group g).scans + 1) % 8 ≠ 0 → codeValid (codes.getD i 0).toNat = true →
        s.tripOf (groupBase g + i) ≤ (codes.getD i 0).toNat → 1 ≤ (s.chan (groupBase g + i)).absRun →
        u.bit R.THM_STATUS 4 = true ∧ u.bit R.THM_STATUS 5 = false ∧ u.bit R.THM_ALERT 0 = true ∧
        u.bit R.THM_TRIP_CAUSE 31 = true ∧ u.pins.alertN = false ∧ ∀ d : Die, u.dies[d].power = 5)) ∧
  (∀ (t : Nat) (codes : List (BitVec 10)) (bad : List (Fin 5 × LineFail)) (s : State), s.samples = true → s.now ≤ t →
    s.thm.sampleReq = true → codes.length = 265 → s.saf.failedMonitors = [] →
    ∃ u, exec (.thmSample t codes bad) s = .next u ∧ u.thm.sampleReq = false ∧ u.bit R.THM_ALERT 7 = true ∧
      (∀ c, c < 265 → (u.chan c).raw = (codes.getD c 0).toNat) ∧ ∀ g : Fin 5, (u.group g).scans = (s.group g).scans)

/-- The re-arm code clears an acknowledged trip once every channel is 20 C below its threshold, and is refused otherwise; any
other code does nothing (R129, R130). The host's acknowledgement waits for the boundary (R431). -/
def Obligations.TripsAreRearmed : Prop :=
  (∀ (code : BitVec 16) (s : State), (code ≠ 0x0D6E ∨ s.prilRuns = false) → exec (.thermalRearm code) s = .next s) ∧
  (∀ s : State, s.prilRuns = true → s.bit R.THM_STATUS 4 = true → s.bit R.THM_STATUS 5 = true → s.rearmReady = true →
    ∃ u, exec (.thermalRearm 0x0D6E) s = .next u ∧ u.bit R.THM_STATUS 4 = false ∧ u.bit R.THM_STATUS 5 = true ∧
      u.bit R.THM_TRIP_CAUSE 31 = false ∧ u.bit R.THM_ALERT 10 = true ∧ (∀ d : Die, u.thm.steps[d] = 0) ∧
      u.tm.pend.map TmEvent.kind = s.tm.pend.map TmEvent.kind ++ [kRearm]) ∧
  (∀ s : State, s.prilRuns = true → (s.bit R.THM_STATUS 4 = false ∨ s.bit R.THM_STATUS 5 = false ∨ s.rearmReady = false) →
    ∃ u, exec (.thermalRearm 0x0D6E) s = .next u ∧ u.bit R.THM_ALERT 9 = true ∧ s.regsOnly u [R.THM_ALERT]) ∧
  (∀ s : State, s.reachable .pf = true → s.bit R.THM_STATUS 4 = true →
    exec (.hostThermalAck 0x0ACE) s = .next { s with thm := { s.thm with ackPending := true } }) ∧
  (∀ s : State, s.reachable .pf = true → s.bit R.THM_STATUS 4 = false → exec (.hostThermalAck 0x0ACE) s = .next s)

/-! ### Tidemark (R134, R135, R407, R408) -/

/-- A record is written twice over, at the next index, in the layout of R134 with the next sequence number; LOG_HEAD names it and
no other byte of Tidemark changes (R134, R408); before Tidemark has been scanned an event waits (the model's choice, assumption log
52). LOG_SEL captures the selected record into the window at once, or when the slot
being written is done (R407). -/
def Obligations.TidemarkRecordsAndWindow : Prop :=
  (∀ (ok0 ok1 : Bool) (s : State), s.logScanned = false → exec (.tidemarkRecordWrite ok0 ok1) s = .next s) ∧
  (∀ (e : TmEvent) (rest : List TmEvent) (s : State), s.pwr.stopped = false → s.saf.restart = 0 → s.logScanned = true →
    s.tm.pend = e :: rest → s.tm.cells.wf = true →
    ∃ t, exec (.tidemarkRecordWrite true true) s = .next t ∧
      t.tm.slot s.nextRecord 0 = slotBytes e s.tm.nextSeq s.tm.cardFlag ∧
      t.tm.slot s.nextRecord 1 = slotBytes e s.tm.nextSeq s.tm.cardFlag ∧
      (∀ a, ¬ (128 * s.nextRecord ≤ a ∧ a < 128 * s.nextRecord + 128) → t.tm.cells.read a = s.tm.cells.read a) ∧
      t.tm.pend = rest ∧ t.tm.nextSeq = (s.tm.nextSeq + 1) % 2 ^ 32 ∧ t.fld R.LOG_HEAD 10 0 = s.nextRecord ∧
      t.bit R.LOG_HEAD 31 = true ∧ s.sameRegs t [R.LOG_HEAD, R.LOG_COUNT] ∧ t.dies = s.dies ∧ t.pnl = s.pnl ∧ t.port = s.port) ∧
  ((∀ (i : BitVec 11) (s : State), ∃ t, exec (.logCapture i false) s = .next t ∧ t.fld R.LOG_SEL 10 0 = i.toNat ∧
    (∀ n, n < 32 → t.reg (R.LOG_WIN0 + n) = BitVec.ofNat 32 (leNat (s.tm.cells.readN (128 * i.toNat + 4 * n) 4))) ∧
    t.bit R.LOG_STATUS 4 = false ∧ t.bit R.LOG_STATUS 3 = (s.tm.chosen i.toNat).isNone ∧ t.tm.captureWait = none ∧
    (∀ a, a ∉ [R.LOG_SEL, R.LOG_STATUS] → ¬ (R.LOG_WIN0 ≤ a ∧ a < R.LOG_WIN0 + 32) → t.reg a = s.reg a) ∧
    t = { s with regs := t.regs, tm := { s.tm with captureWait := none } }) ∧
  (∀ (i : BitVec 11) (s : State), ∃ t, exec (.logCapture i true) s = .next t ∧ t.bit R.LOG_STATUS 4 = true ∧
    t.fld R.LOG_SEL 10 0 = i.toNat ∧ s.sameRegs t [R.LOG_SEL, R.LOG_STATUS] ∧
    t = { s with regs := t.regs, tm := { s.tm with captureWait := some i.toNat } }) ∧
  (∀ (i : Nat) (s : State), s.tm.captureWait = some i → ∃ t, exec .logCaptureDone s = .next t ∧ t.bit R.LOG_STATUS 4 = false ∧
    (∀ n, n < 32 → t.reg (R.LOG_WIN0 + n) = BitVec.ofNat 32 (leNat (s.tm.cells.readN (128 * i + 4 * n) 4))) ∧
    t = { s with regs := t.regs, tm := { s.tm with captureWait := none } }))

/-! ### Memory, links and what the host and the twin reach (R137-R161, R410-R427) -/

/-- A patrol scrub in Noon, Afternoon or Evening reads the unit at its position, counts what it corrects, and poisons and reports what
it cannot (R147, R148, R149, R151); the next scrub reads the next unit, the end of tier 0 counts a pass, and a tier 1 of which nothing
has been written is passed over (R148, R152); a row that names another unit than the one due is no scrub. No byte of memory changes. A die link goes down at both ends and each end counts it; at
most once per mt it comes up again by itself between two powered dies (R145). -/
def Obligations.ScrubsAndLinks : Prop :=
  (∀ (d : Die) (s : State), s.dies[d].power ≤ 2 → bitAt s.dies[d].memBlk[14] 0 = true →
    let u := s.dies[d].scrub0
    (u + 1 < 2 ^ 28 →
      (∃ t, exec (.patrolScrub d false u .corrected false) s = .next t ∧ s.dieOnly t d ∧
        t.dies[d] = { s.dies[d] with memBlk := t.dies[d].memBlk, scrub0 := u + 1 } ∧
        t.dies[d].memBlk = s.dies[d].memBlk.set 5
          (setField s.dies[d].memBlk[5] 15 0 (satAt 65535 (field s.dies[d].memBlk[5] 15 0 + 1)))) ∧
      (s.poisonAt (.die d (8 * u)) = none →
        ∃ t, exec (.patrolScrub d false u .uncorrectable false) s = .next t ∧ t.poisonAt (.die d (8 * u)) = some false ∧
          t.dies[d].t0 = s.dies[d].t0 ∧ t.dies[d].t1 = s.dies[d].t1 ∧ t.dies[d].scrub0 = u + 1 ∧
          t.dies[d].events = s.dies[d].events ++ [.memUe (s.locMem d.val (8 * u))] ∧
          (∀ e : Die, e ≠ d → t.dies[e] = s.dies[e]) ∧ t.regs = s.regs) ∧
      exec (.patrolScrub d false u .ok false) s = .next (s.modDie d fun x => { x with scrub0 := u + 1 })) ∧
    (u + 1 = 2 ^ 28 → ∃ t, exec (.patrolScrub d false u .ok true) s = .next t ∧ s.dieOnly t d ∧
      t.dies[d] = { s.dies[d] with memBlk := t.dies[d].memBlk, scrub0 := 0 } ∧
      field t.dies[d].memBlk[14] 31 16 = (field s.dies[d].memBlk[14] 31 16 + 1) % 65536 ∧
      bitAt t.dies[d].memBlk[14] 0 = true) ∧
    (s.dies[d].t1Written = [] → ∀ r, exec (.patrolScrub d true (scrubUnits true) r true) s =
      .next (s.modDie d fun x => { x with scrub1 := 0 })) ∧
    (∀ tier1 v r e, s.scrubDue d tier1 ≠ (v, e) → exec (.patrolScrub d tier1 v r e) s = .next s)) ∧
  (∀ (d : Die) (tier1 : Bool) (v : Nat) (r : EccResult) (e : Bool) (s : State), (2 < s.dies[d].power ∨ bitAt s.dies[d].memBlk[14] 0 = false) →
    exec (.patrolScrub d tier1 v r e) s = .next s) ∧
  (∀ (d : Die) (k : Fin 4) (s : State), k ≠ 3 →
    (∃ t, exec (.linkDown d k) s = .next t ∧ t.dies[d].linkUp[k] = false ∧
      t.dies[linkPeer d k].linkUp[linkTo (linkPeer d k) d] = false ∧
      (s.dies[d].linkUp[k] = true →
        field t.dies[d].memBlk[7] 15 8 = satAt 255 (field s.dies[d].memBlk[7] 15 8 + 1)) ∧
      t = { s with dies := t.dies } ∧ s.sameBytes t) ∧
    (s.dies[d].power < 5 → s.dies[linkPeer d k].power < 5 → s.dies[d].linkUp[k] = false → s.mayRetrain d k = true →
      ∃ t, exec (.linkRetrain d k) s = .next t ∧ t.dies[d].linkUp[k] = true ∧
        t.dies[linkPeer d k].linkUp[linkTo (linkPeer d k) d] = true ∧ t.dies[d].retrainAt[k] = some s.now ∧
        t = { s with dies := t.dies } ∧ s.sameBytes t) ∧
    (∀ at', s.dies[d].retrainAt[k] = some at' → s.now < at' + 320000 → exec (.linkRetrain d k) s = .next s) ∧
    ((s.dies[d].power = 5 ∨ s.dies[linkPeer d k].power = 5) → exec (.linkRetrain d k) s = .next s))

/-- Every write to the pool's registers, the watermarks or the aperture of a die that is reached completes. The pool's base and size
are taken while no unit is in use and the pool fits tier 0, and rejected with MEM_ALERT.param_rejected otherwise (R158); watermarks
are taken when the low one is below the high one, and rejected otherwise (R159); the aperture moves to a local address, and a write
that would take it elsewhere leaves it and sets INT_STATUS.aperture_rejected (R421). -/
def Obligations.PoolAndApertureWrites : Prop :=
  ∀ (d : Die) (val : Word) (s : State), s.reachable (.die d) = true →
    (∀ size : Bool,
      let base := if size then field s.dies[d].memBlk[8] 9 0 else field val 9 0
      let len := if size then field val 10 0 else field s.dies[d].memBlk[9] 10 0
      let taken := field s.dies[d].memBlk[11] 19 0 = 0 ∧ base + len ≤ 1024
      ∃ t, exec (.poolWrite d size val) s = .next t ∧
        (taken → t = s.modDie d fun x => { x with memBlk :=
          (if size then x.memBlk.set 9 (BitVec.ofNat 32 len) else x.memBlk.set 8 (BitVec.ofNat 32 base)) }) ∧
        (¬ taken → bitAt t.dies[d].memBlk[15] 4 = true ∧ t.dies[d].memBlk[8] = s.dies[d].memBlk[8] ∧
          t.dies[d].memBlk[9] = s.dies[d].memBlk[9] ∧ t.dies[d].t0 = s.dies[d].t0 ∧ t.dies[d].t1 = s.dies[d].t1 ∧ t.regs = s.regs)) ∧
    (∃ t, exec (.watermarkWrite d val) s = .next t ∧ t.dies[d].t0 = s.dies[d].t0 ∧ t.dies[d].t1 = s.dies[d].t1 ∧ t.regs = s.regs ∧
      (field val 15 8 < field val 7 0 → t.dies[d].memBlk[10] = val &&& 0xFFFF#32) ∧
      (field val 7 0 ≤ field val 15 8 → t.dies[d].memBlk[10] = s.dies[d].memBlk[10] ∧ bitAt t.dies[d].memBlk[15] 4 = true)) ∧
    (∀ high : Bool,
      let lo := if high then s.dies[d].linkBlk[2] else val &&& 0xFFE00000#32
      let hi := if high then val &&& 0xFFFF#32 else s.dies[d].linkBlk[3]
      ∃ t, exec (.apertureMove d high val) s = .next t ∧
        (isLocal (lo.toNat + hi.toNat * 2 ^ 32) = true → s.dieOnly t d ∧
          t.dies[d] = { s.dies[d] with linkBlk := (s.dies[d].linkBlk.set 2 lo).set 3 hi }) ∧
        (isLocal (lo.toNat + hi.toNat * 2 ^ 32) = false → t.dies[d].linkBlk[2] = s.dies[d].linkBlk[2] ∧
          t.dies[d].linkBlk[3] = s.dies[d].linkBlk[3] ∧ bitAt t.dies[d].linkBlk[8] 8 = true ∧ t.regs = s.regs))

/-- A BAR2 read in Evening or shallower returns the bytes of the aperture and changes nothing; a BAR2 write stores its bytes there
and leaves every other byte (R420, R422). In Dusk and Night both are refused (R422). Work SRAM is the Prilliner's BAR2 (R430). -/
def Obligations.Bar2ReachesTheAperture : Prop :=
  (∀ (d : Die) (off n : Nat) (s : State), s.reachable (.die d) = true → s.dies[d].power ≤ 2 → 1 ≤ n →
    off + n ≤ 2 ^ s.dies[d].cfg.bar2Log → localRange (s.dies[d].aperture + off) n = true →
    s.poisonIn d (s.dies[d].aperture + off) n = none →
    exec (.bar2Read (.die d) off n .none) s =
      .next (s.respond (.ok ((List.range n).map fun i => s.peek (.die d (s.dies[d].aperture + off + i)))))) ∧
  (∀ (d : Die) (off : Nat) (data : List Byte) (s : State), s.reachable (.die d) = true → s.dies[d].power ≤ 2 → data ≠ [] →
    off + data.length ≤ 2 ^ s.dies[d].cfg.bar2Log → localRange (s.dies[d].aperture + off) data.length = true →
    s.dies[d].t0.wf = true → s.dies[d].t1.wf = true →
    ∃ t, exec (.bar2Write (.die d) off data false) s = .next t ∧
      (∀ i, i < data.length → t.peek (.die d (s.dies[d].aperture + off + i)) = data.getD i 0) ∧
      s.sameBytesBut t (fun x => ∃ i, i < data.length ∧ x = .die d (s.dies[d].aperture + off + i)) ∧
      t.regs = s.regs ∧ t.port = s.port) ∧
  (∀ (d : Die) (off n : Nat) (data : List Byte) (s : State), s.reachable (.die d) = true →
    (s.dies[d].power = 3 ∨ s.dies[d].power = 4) → 1 ≤ n → off + n ≤ 2 ^ s.dies[d].cfg.bar2Log → data.length = n →
    (∃ t, exec (.bar2Read (.die d) off n .none) s = .next t ∧ t.out.resp = .ur ∧ bitAt t.dies[d].linkBlk[8] 7 = true ∧
      s.sameBytes t) ∧
    (∃ t, exec (.bar2Write (.die d) off data false) s = .next t ∧ bitAt t.dies[d].linkBlk[8] 7 = true ∧ s.sameBytes t)) ∧
  (∀ (off n : Nat) (s : State), s.reachable .pf = true → off + n ≤ 0x800000 → s.pnl.workBad = [] →
    exec (.bar2Read .pf off n .none) s = .next (s.respond (.ok ((List.range n).map fun i => s.pnl.work.read (off + i)))))

/-- An access on a pair data port is served while the pair is PAIRED, the fence is open and the die is awake, and refused with
PEER_UNAVAIL otherwise (R140, R144, R383). -/
def Obligations.PairPortRequestsAreFenced : Prop :=
  ∀ (d : Die) (a n : Nat) (data : List Byte) (s : State), s.dies[d].linkUp[(3 : Fin 4)] = true →
    (s.twinOpen = false ∨ 2 < s.dies[d].power → ∀ k,
      exec (.pairPortRequest d k a n data) s =
        .next { s with pair := { s.pair with signalAt := some s.now }, out := { s.out with resp := .peerUnavail } }) ∧
    (s.twinOpen = true → s.dies[d].power ≤ 2 → localRange a n = true → s.poisonIn d a n = none →
      exec (.pairPortRequest d (.read .none) a n data) s =
        .next { s with pair := { s.pair with signalAt := some s.now },
                       out := { s.out with resp := .ok ((List.range n).map fun i => s.peek (.die d (a + i))) } }) ∧
    (s.twinOpen = true → s.dies[d].power ≤ 2 → localRange a data.length = true →
      s.dies[d].t0.wf = true → s.dies[d].t1.wf = true →
      ∃ t, exec (.pairPortRequest d .write a n data) s = .next t ∧
        (∀ i, i < data.length → t.peek (.die d (a + i)) = data.getD i 0) ∧
        s.sameBytesBut t (fun x => ∃ i, i < data.length ∧ x = .die d (a + i)) ∧ t.out.resp = .ok [] ∧ t.regs = s.regs)

/-- Configuration requests are answered while the switch is powered (R410, R412, R415): identities are read-only, Bus Master
Enable and MSI-X Enable are kept, and a port's Link Status shows the speed and width it trained to and whether it is active (R413; its
layout is the PCIe base specification's, PRESUMED, assumption log 62). A Function Level Reset of a die disables its queues and clears its configuration; the power
state, memories, sync objects, raster counter and CMD_EPOCH stay (R427). The falling edge of PERST_N resets all five functions
(R428). A host read that no completion answers ends its command with MEM_RANGE (R426). -/
def Obligations.FunctionConfigurationAndResets : Prop :=
  (∀ (d : Die) (v : Nat) (s : State), s.switchOn = true →
    exec (.configRequest (.die d) .vendorDevice none) s = .next (s.respond (.ok (leBytes 8 0xA4001F6A))) ∧
    exec (.configRequest .pf .vendorDevice none) s = .next (s.respond (.ok (leBytes 8 0xA4011F6A))) ∧
    exec (.configRequest (.die d) .vendorDevice (some v)) s = .next (s.respond (.ok [])) ∧
    exec (.configRequest (.die d) .portLinkStatus none) s = .next (s.respond (.ok (leBytes 8
      (s.sw.speed[portOf (.die d)] + 16 * s.sw.width[portOf (.die d)] + 8192 * b2n (decide (s.dies[d].power < 5) && s.dies[d].pcieUp))))) ∧
    exec (.configRequest .pf .upLinkStatus none) s = .next (s.respond (.ok (leBytes 8 (s.sw.upSpeed + 16 * s.sw.upWidth + 8192)))) ∧
    exec (.configRequest (.die d) .command (some v)) s =
      .next ((s.modDie d fun x => { x with cfg := { x.cfg with command := v % 65536 } }).respond (.ok [])) ∧
    exec (.configRequest .pf .msixControl (some v)) s =
      .next (({ s with pf := { s.pf with msix := { s.pf.msix with enable := v.testBit 0 } } } : State).respond (.ok []))) ∧
  ((∀ (d : Die) (s : State), s.switchOn = true → (∀ q : QIdx, s.dies[d].queues[q].live = []) → s.slot.held = false →
    ∃ t, exec (.flr (.die d)) s = .next t ∧ (∀ q : QIdx, t.dies[d].queues[q].state = 0) ∧
      t.dies[d].cfg = { CfgSpace.reset with aer := s.dies[d].cfg.aer } ∧ t.dies[d].power = s.dies[d].power ∧
      t.dies[d].objs = s.dies[d].objs ∧ t.dies[d].ras = s.dies[d].ras ∧ t.dies[d].cmdBlk[4] = s.dies[d].cmdBlk[4] ∧
      s.sameBytes t ∧ (∀ e : Die, e ≠ d → t.dies[e] = s.dies[e]) ∧ t.regs = s.regs) ∧
  (∀ s : State, s.pins.perstN = true →
    ∃ t, exec .perstNFall s = .next t ∧ t.pins.perstN = false ∧
      (∀ d : Die, (∀ q : QIdx, t.dies[d].queues[q].state = 0) ∧ t.dies[d].cfg.command = 0 ∧
        t.dies[d].power = s.dies[d].power) ∧ t.pf.cfg.command = 0 ∧ t.regs = s.regs) ∧
  (∀ (d : Die) (q : QIdx) (l : Live) (s : State), s.dies[d].queues[q].live = [l] → l.phase = .running → l.undo = [] →
    ∃ t loc, exec (.completionTimeout d q) s = .next t ∧
      t.dies[d].queues[q].live = [{ l with phase := .ended, status := stMemRange, location := loc }] ∧
      t.dies[d].cfg.aer = s.dies[d].cfg.aer ||| 4 ∧ s.sameBytes t ∧ t.regs = s.regs))

/-! ### Queues (R162-R189) -/

/-- A 32-bit doorbell whose tail the queue accepts advances Q_TAIL and takes the next acceptance number; any other width, or a
tail outside the rule, changes nothing but bad_doorbell (R165, R166). -/
def Obligations.DoorbellsAdvanceTheTail : Prop :=
  ∀ (fn : Fn) (q : QIdx) (tail : Word) (s : State), s.reachable fn = true →
    ((s.queue fn q).accepts tail = true → tail ≠ (s.queue fn q).tail →
      ∃ t, exec (.doorbell fn q tail 4) s = .next t ∧
        t.queue fn q = { s.queue fn q with tail := tail, bells := (s.queue fn q).bells ++ [(tail, s.slot.bells)] } ∧
        t.slot.bells = s.slot.bells + 1 ∧ t.regs = s.regs ∧ s.sameBytes t) ∧
    ((s.queue fn q).accepts tail = false → exec (.doorbell fn q tail 4) s =
      .next (s.modQueue fn q fun x => { x with badDoorbell := true })) ∧
    (∀ w, w ≠ 4 → exec (.doorbell fn q tail w) s = .next (s.modQueue fn q fun x => { x with badDoorbell := true }))

/-- ENABLE of a DISABLED queue clears its indices, binds it to the function's epoch and lets it run (R164, R187, R188); a ring in
a peer or twin window is refused with bad_ring (R164); in any other state it is ignored with ctrl_ignored (R188). DISABLE of a
running or halted queue drops what has not started; the queue is DISABLED at once where nothing is in execution, and DRAINING
until it has ended otherwise (R188). RESUME, REBIND and RESET act on the states R188 gives them. -/
def Obligations.QueueControlFollowsItsState : Prop :=
  (∀ (fn : Fn) (q : QIdx) (s : State), s.reachable fn = true →
    ((s.queue fn q).state = 0 → inWindow (s.queue fn q).ringBase = false → inWindow (s.queue fn q).cplBase = false →
      ∃ t, exec (.enable fn q) s = .next t ∧
        t.queue fn q = { s.queue fn q with
          state := 1, stale := false, head := 0, tail := 0, cplHead := 0, cplTail := 0, errPos := 0, errStatus := 0,
          epoch := s.epochOf fn, next := 0, listOpen := false, listDue := none, inSlot := false, bells := [], live := [] } ∧
        (∀ d : Die, fn = .die d → bitAt t.dies[d].cmdBlk[12] q.val = false ∧ bitAt t.dies[d].cmdBlk[13] q.val = false) ∧
        t = { s with dies := t.dies, pf := t.pf } ∧ s.sameBytes t) ∧
    ((s.queue fn q).state = 0 → inWindow (s.queue fn q).ringBase = true →
      exec (.enable fn q) s = .next (s.modQueue fn q fun x => { x with badRing := true })) ∧
    ((s.queue fn q).state ≠ 0 → exec (.enable fn q) s = .next (s.modQueue fn q fun x => { x with ctrlIgnored := true }))) ∧
  (∀ (fn : Fn) (q : QIdx) (s : State), s.reachable fn = true →
    (((s.queue fn q).state = 1 ∨ (s.queue fn q).state = 2) →
      ∃ t, exec (.disable fn q) s = .next t ∧
        (t.queue fn q).state = (if ((s.queue fn q).live.takeWhile Live.inExec).isEmpty then 0 else 3) ∧
        (t.queue fn q).live = (s.queue fn q).live.takeWhile Live.inExec ∧ s.sameBytes t ∧ t.regs = s.regs) ∧
    ((s.queue fn q).state = 2 →
      ∃ t, exec (.resume fn q) s = .next t ∧ (t.queue fn q).state = 1 ∧ (t.queue fn q).errPos = 0 ∧
        (t.queue fn q).errStatus = 0 ∧ (t.queue fn q).head = (s.queue fn q).head ∧
        (t.queue fn q).live = (s.queue fn q).live ∧ s.sameBytes t ∧ t.regs = s.regs) ∧
    (((s.queue fn q).state = 1 ∨ (s.queue fn q).state = 2) →
      ∃ t, exec (.rebind fn q) s = .next t ∧ (t.queue fn q).epoch = s.epochOf fn ∧ (t.queue fn q).stale = false ∧
        (t.queue fn q).state = (s.queue fn q).state ∧ (t.queue fn q).live = (s.queue fn q).live ∧ s.sameBytes t ∧
        t.regs = s.regs) ∧
    ((s.queue fn q).state = 2 →
      ∃ t, exec (.reset fn q) s = .next t ∧ (t.queue fn q).state = 1 ∧ (t.queue fn q).head = (s.queue fn q).tail ∧
        (t.queue fn q).tail = (s.queue fn q).tail ∧ (t.queue fn q).live = [] ∧ (t.queue fn q).stale = false ∧
        (t.queue fn q).epoch = s.epochOf fn ∧ s.sameBytes t ∧ t.regs = s.regs) ∧
    ((s.queue fn q).state = 1 → exec (.resume fn q) s = .next (s.modQueue fn q fun x => { x with ctrlIgnored := true }) ∧
      exec (.reset fn q) s = .next (s.modQueue fn q fun x => { x with ctrlIgnored := true })))

/-- The configuration registers of a queue are written only while it is DISABLED, with ring sizes in range (R164); CMD_DESC_BASE
only while every queue of the die is (R176); Q_CPL_HEAD at any time (R181). -/
def Obligations.QueueConfigurationWrites : Prop :=
  (∀ (fn : Fn) (q : QIdx) (val : Word) (s : State), s.reachable fn = true →
    ((s.queue fn q).state = 0 →
      exec (.queueConfigWrite fn q 0x18 val) s = .next (s.modQueue fn q fun x =>
        { x with cls := field val 1 0, vector := field val 12 2, waitTimeout := field val 23 16 }) ∧
      exec (.queueConfigWrite fn q 0x00 val) s = .next (s.modQueue fn q fun x =>
        { x with ringBase := x.ringBase / 2 ^ 32 * 2 ^ 32 + val.toNat / 4096 * 4096 }) ∧
      (field val 4 0 < 6 → exec (.queueConfigWrite fn q 0x08 val) s = .next (s.modQueue fn q id)) ∧
      (6 ≤ field val 4 0 → field val 4 0 ≤ 16 →
        exec (.queueConfigWrite fn q 0x08 val) s = .next (s.modQueue fn q fun x => { x with ringLog := field val 4 0 }))) ∧
    ((s.queue fn q).state ≠ 0 → ∀ off, exec (.queueConfigWrite fn q off val) s =
      .next (s.modQueue fn q fun x => { x with ctrlIgnored := true })) ∧
    (∃ t, exec (.cplHeadWrite fn q val) s = .next t ∧ (t.queue fn q).cplHead = val ∧ (t.queue fn q).head = (s.queue fn q).head ∧
      (t.queue fn q).live.map Live.pos = (s.queue fn q).live.map Live.pos ∧ t.regs = s.regs ∧ s.sameBytes t)) ∧
  (∀ (d : Die) (val : Word) (s : State), s.reachable (.die d) = true →
    ((∀ q : QIdx, s.dies[d].queues[q].state = 0) →
      exec (.cmdDescBaseWrite d false val) s =
        .next (s.modDie d fun x => { x with cmdBlk := x.cmdBlk.set 5 (setField val 11 0 0) })) ∧
    (∀ q : QIdx, s.dies[d].queues[q].state ≠ 0 →
      ∃ t, exec (.cmdDescBaseWrite d false val) s = .next t ∧ t.dies[d].cmdBlk[5] = s.dies[d].cmdBlk[5] ∧
        bitAt t.dies[d].cmdBlk[15] 0 = true ∧ bitAt t.dies[d].linkBlk[8] 6 = true ∧ t.regs = s.regs))

/-- A function reads the next visible command of a queue whose turn it is (R167, R171): it stands behind the queue's other commands,
and the fetch position moves on. In a queue that holds no other command, one whose header and body pass goes on to its gate or its
descriptors, or waits for its WAIT while that is not satisfied; one that fails ends with the status of step 1, and one that cannot be
read ends with RING_FAULT (R172, R174, R186). Nothing is written to memory. -/
def Obligations.CommandsAreFetched : Prop :=
  ∀ (fn : Fn) (q : QIdx) (s : State), s.fetchable fn q = true →
    let x := s.queue fn q
    let a := x.ringBase + 64 * (x.next.toNat % 2 ^ x.ringLog)
    let bs := s.loadN fn false a 64
    let h := header bs
    ∃ t, exec (.commandFetch fn q .none) s = .next t ∧ (t.queue fn q).live.length = x.live.length + 1 ∧
      (t.queue fn q).next = x.next + 1 ∧ (t.queue fn q).head = x.head ∧ s.sameBytes t ∧ t.regs = s.regs ∧
      (x.live = [] → ∃ l, (t.queue fn q).live = [l] ∧ l.pos = x.next ∧
        (s.readCheck fn false a 64 ≠ none → l.phase = .ended ∧ l.status = stRingFault) ∧
        (s.readCheck fn false a 64 = none → l.bytes = bs ∧
          (s.step1 fn q bs ≠ stOk → l.phase = .ended ∧ l.status = s.step1 fn q bs) ∧
          (s.step1 fn q bs = stOk →
            ((h.waitObj = 511 ∨ s.waitState fn h.waitObj h.waitValue = some true) →
              l.status = stOk ∧ l.phase = if h.nbValid then .gate else .atDesc) ∧
            (h.waitObj ≠ 511 → s.waitState fn h.waitObj h.waitValue = some false → l.status = stOk ∧ l.phase = .waiting) ∧
            (h.waitObj ≠ 511 → s.waitState fn h.waitObj h.waitValue = none → l.phase = .ended ∧ l.status = stPeerUnavail))))

/-- Step 4 of a die command reads its descriptors: the command becomes eligible where they pass, and ends with their status where
they do not (R174, R179, R194), with whatever the ECC meets in the reads (R147). A NOP that Weir chooses ends at once with OK, and
changes no byte of memory (R162). -/
def Obligations.CommandsReachStep4AndNopsEnd : Prop :=
  (∀ (d : Die) (q : QIdx) (n : Nat) (l : Live) (ev : AccessEvent) (s : State), s.dieRuns d = true →
    s.dies[d].queues[q].atStep4 = some (n, l) →
    ((s.read4 d q l ev).st = 0 → ∃ t m, exec (.descriptorRead (.die d) ⟨q, ev⟩) s = .next t ∧
      t.dies[d].queues[q].live[n]? = some m ∧ m.phase = .eligible ∧ m.bytes = l.bytes ∧ m.descs = (s.read4 d q l ev).descs) ∧
    ((s.read4 d q l ev).st ≠ 0 → ∃ t m, exec (.descriptorRead (.die d) ⟨q, ev⟩) s = .next t ∧
      t.dies[d].queues[q].live[n]? = some m ∧ m.phase = .ended ∧ m.status = (s.read4 d q l ev).st)) ∧
  (∀ (d : Die) (q : QIdx) (n : Nat) (l : Live) (s : State), s.startable d q 0x00 = some (n, l) →
    ∃ t, exec (.nop (.die d) q) s = .next t ∧
      t.dies[d].queues[q].live[n]? = some { l with phase := .ended, status := stOk, location := 0 } ∧
      t.dies[d].engines[engineIdx (engineOf q)].running = none ∧ s.dieOnly t d ∧ s.sameBytes t) ∧
  (∀ (q : QIdx) (n : Nat) (l : Live) (s : State), s.prilRuns = true → s.panelHead (pfIdx q) = some (n, l) →
    byteAt l.bytes 0 = 0 →
    ∃ t, exec (.nop .pf q) s = .next t ∧ t.pf.queues[pfIdx q].live[n]? = some { l with phase := .ended } ∧
      t = { s with pf := t.pf })

/-! ### The panel and its supplies (R327-R370) -/

/-- A PANEL command that is the head of its queue, with nothing before it in the order of grants, runs (R347, R348): UPDATE and
PARK get the granted slot with their rectangle, or end refused where a cause of R348 holds by then (R337, R344); HISTORY writes the class of every pixel of its rectangle (R345), READ_STATE writes
the pixel words to work SRAM, WAVEFORM_LOAD the waveform image, which is valid only if every entry passes (R333). -/
def Obligations.PanelCommandsRun : Prop :=
  (∀ (q : Fin 4) (i n : Nat) (l : Live) (s : State), s.prilRuns = true → s.panelHead q = some (i, l) →
    s.cardPending = false → s.pnl.parkAllWaits = false → (∀ p ∈ s.panelOrder.takeWhile (· ≠ q), s.panelHead p = none) →
    s.blocked347 q = false →
    ∀ c, (byteAt l.bytes 0 = 0x40 ∧ c = Instr.update q) ∨ (byteAt l.bytes 0 = 0x41 ∧ c = Instr.park q) →
      (s.panelRefusal false l.bytes ≠ 0 → ∃ t, exec c s = .next t ∧
        t.pf.queues[q].live[i]? = some { l with phase := .ended, status := stNotSupported, reason := s.panelRefusal false l.bytes } ∧
        t.bit R.PNL_ALERT 9 = true ∧ s.sameRegs t [R.PNL_ALERT] ∧ t.pnl = s.pnl) ∧
      (s.panelRefusal false l.bytes = 0 → s.verdict (s.requestOf q l) = .grant n → s.imagePoisoned (s.requestOf q l) = false → ∃ t, exec c s = .next t ∧
        t.slotAt n = { s.requestOf q l with granted := true } ∧ (∀ m, m ≠ n → t.slotAt m = s.slotAt m) ∧
        t.pf.queues[q].live[i]? = some { l with phase := .running, slotUsed := n } ∧
        t.pnl = { s.pnl with slots := t.pnl.slots } ∧ t = { s with pnl := t.pnl, pf := t.pf }) ∧
      (s.panelRefusal false l.bytes = 0 → s.verdict (s.requestOf q l) = .never → ∃ t, exec c s = .next t ∧
        t.pf.queues[q].live[i]? = some { l with phase := .ended, status := stNotSupported, reason := 6 } ∧
        t.bit R.PNL_ALERT 9 = true ∧ s.sameRegs t [R.PNL_ALERT] ∧ t.pnl = s.pnl)) ∧
  (∀ (q : Fin 4) (i : Nat) (l : Live) (s : State), s.prilRuns = true → s.panelHead q = some (i, l) →
    let p := s.panelBody l.bytes
    s.panelWaits l.bytes = false → s.workEnd l.bytes ≤ 0x800000 → p.x + p.w ≤ 4096 → s.pnl.pixels.wf pixelReset = true → s.pnl.work.wf = true →
    (byteAt l.bytes 0 = 0x42 → s.pnl.workBad = [] →
      ∃ t, exec (.history q) s = .next t ∧
        (∀ k, t.pixel k = if inRect k p.x p.y p.w p.h then
            setField (s.pixel k) 27 26 ((s.pnl.work.read (p.addr + (keyY k - p.y) * p.stride + (keyX k - p.x) / 4)).toNat
              / 4 ^ ((keyX k - p.x) % 4) % 4)
          else s.pixel k) ∧
        t.pf.queues[q].live[i]? = some { l with phase := .ended, status := stOk, reason := 0, result := min (p.w * p.h) 0xFFFFFF } ∧
        t.pnl = { s.pnl with pixels := t.pnl.pixels } ∧ t = { s with pnl := t.pnl, pf := t.pf }) ∧
    (byteAt l.bytes 0 = 0x44 → 4 * p.w ≤ p.stride →
      ∃ t, exec (.readState q) s = .next t ∧
        (∀ x y b, x < p.w → y < p.h → b < 4 →
          t.pnl.work.read (p.addr + y * p.stride + 4 * x + b) =
            BitVec.ofNat 8 (field (s.pixel (pixelKey (p.x + x) (p.y + y))) (8 * b + 7) (8 * b))) ∧
        (∀ a, (∀ y, y < p.h → a < p.addr + y * p.stride ∨ p.addr + y * p.stride + 4 * p.w ≤ a) →
          t.pnl.work.read a = s.pnl.work.read a) ∧
        t.pf.queues[q].live[i]? = some { l with phase := .ended, status := stOk, reason := 0, result := min (p.w * p.h) 0xFFFFFF } ∧
        t.pnl = { s.pnl with work := t.pnl.work, workBad := t.pnl.workBad } ∧ t = { s with pnl := t.pnl, pf := t.pf })) ∧
  (∀ (q : Fin 4) (i : Nat) (l : Live) (s : State), s.prilRuns = true → s.panelHead q = some (i, l) →
    s.panelWaits l.bytes = false → byteAt l.bytes 0 = 0x43 → s.pnl.wave.wf = true → s.pnl.workBad = [] →
    let p := s.panelBody l.bytes
    p.mode < 8 → p.addr + 999424 ≤ 0x800000 →
    ∃ t, exec (.waveformLoad q) s = .next t ∧
      (∀ a, a < 999424 → t.pnl.wave.read (p.mode * 0x100000 + a) = s.pnl.work.read (p.addr + a)) ∧
      (∀ a, a < p.mode * 0x100000 ∨ (p.mode + 1) * 0x100000 ≤ a → t.pnl.wave.read a = s.pnl.wave.read a) ∧
      t.wfValid p.mode = t.wfAllOk p.mode ∧ t.bit R.PNL_WF_STATUS (8 + p.mode) = !t.wfAllOk p.mode ∧
      (∀ e, e < 16384 → t.wfAllOk p.mode = true → t.wfNet p.mode e * 16 = t.wfSum p.mode e (t.wfLen p.mode e)) ∧
      (∃ m, t.pf.queues[q].live[i]? = some m ∧ m.phase = .ended ∧
        m.status = if t.wfAllOk p.mode then stOk else stNotSupported) ∧
      t.pnl = { s.pnl with wave := t.pnl.wave } ∧ s.sameRegs t [R.PNL_WF_STATUS, R.PNL_ALERT])

/-- A scanned frame drives every pixel in transition with the code of its waveform or Park phase and every other pixel with
PNL_CTRL.idle_code (R328, R339, R342); with no slot the panel drives nothing, but for the frames of a kick-back measurement, in which
every source drives HOLD (R353). PANEL_ENABLE follows the scan period rule (R327), PARK_ALL is refused as a PARK is
(R350), STOP_ALL waits for the end of the frame (R343). -/
def Obligations.PanelFramesAndOwnCommands : Prop :=
  (∀ s : State, s.prilRuns = true → s.pnl.low = false → s.pnl.pixels.wf pixelReset = true →
    (∀ n, (s.slotAt n).granted = true → (s.slotAt n).active = true) →
    (s.scanning = true → ∃ t, exec .panelScanFrame s = .next t ∧ t.pnl.frameNo = s.pnl.frameNo + 1 ∧
      (∀ k, SMap.get 0 t.pnl.drive k = ((s.pixelFrame k (s.pixel k)).code.map (· + 1)).getD 0) ∧
      t.pnl.idle = some (if s.bit R.PNL_CTRL 1 then 3 else 0) ∧
      t.dies = s.dies ∧ t.pnl.wave = s.pnl.wave ∧ t.pnl.work = s.pnl.work) ∧
    (s.scanning = false → s.hvState ≠ 6 → ∃ t, exec .panelScanFrame s = .next t ∧ t.pnl.drive = [] ∧ t.pnl.idle = none ∧
      t.pnl.pixels = s.pnl.pixels ∧ t.pnl.frameNo = s.pnl.frameNo ∧ t.pnl.stopAllReq = false ∧ t.dies = s.dies ∧
      t.pnl.wave = s.pnl.wave ∧ t.pnl.work = s.pnl.work) ∧
    (s.scanning = false → s.hvState = 6 → s.hv.measured < s.fld R.HV_KICKBACK 3 0 → ∃ t, exec .panelScanFrame s = .next t ∧
      t.pnl.drive = [] ∧ t.pnl.idle = some 0 ∧ t.hv.measured = s.hv.measured + 1 ∧ t.pnl.frameNo = s.pnl.frameNo + 1 ∧
      t.pnl.pixels = s.pnl.pixels ∧ t.dies = s.dies)) ∧
  (∀ (val : Word) (s : State),
    ((bitAt val 0 = false ∨ s.bit R.PNL_CTRL 0 = true ∨ s.scanFits = true) →
      ∃ t, exec (.panelEnable val) s = .next t ∧ t.bit R.PNL_CTRL 0 = bitAt val 0 ∧ t.bit R.PNL_CTRL 1 = bitAt val 1 ∧
        t.fld R.PNL_STATUS 2 0 = (match bitAt val 0, s.scanning with
          | true, true => 2 | true, false => 1 | false, true => 3 | false, false => 0) ∧
        s.regsOnly t [R.PNL_CTRL, R.PNL_STATUS]) ∧
    (bitAt val 0 = true → s.bit R.PNL_CTRL 0 = false → s.scanFits = false →
      ∃ t, exec (.panelEnable val) s = .next t ∧ t.bit R.PNL_ALERT 8 = true ∧ s.sameRegs t [R.PNL_ALERT])) ∧
  (∀ s : State,
    exec .stopAll s = .next { s with pnl := { s.pnl with stopAllReq := true } } ∧
    ((s.wfValid 5 = false ∨ s.parkBand = none ∨ s.bit R.HV_FAULT 15 = true ∨ s.bit R.PNL_CTRL 0 = false) →
      ∃ t, exec .parkAll s = .next t ∧ t.bit R.PNL_ALERT 9 = true ∧ s.sameRegs t [R.PNL_ALERT] ∧ t.pnl = s.pnl) ∧
    (s.wfValid 5 = true → s.parkBand ≠ none → s.bit R.HV_FAULT 15 = false → s.bit R.PNL_CTRL 0 = true →
      s.activeOverlap 0 0 s.pnlW s.pnlH false = false → s.pnl.parkAllWaits = false →
      let u := { s with pnl := { s.pnl with parkAllWaits := true, parkAllAt := s.pnl.nextOrder, nextOrder := s.pnl.nextOrder + 1 } }
      ∀ n, u.verdict u.parkAllRequest = .grant n → ∃ t, exec .parkAll s = .next t ∧
        t.slotAt n = { u.parkAllRequest with granted := true } ∧ t.pnl.parkAllWaits = false ∧
        (∀ m, m ≠ n → t.slotAt m = s.slotAt m) ∧ t.pnl.pixels = s.pnl.pixels ∧ s.sameRegs t [R.PNL_STATUS]))

/-- The rails rise on demand while armed: the codes of the registers come into force (R352), each rail is at its target from the end
of its ramp on, and they are UP with their alert when VCOM's ramp has ended (R354, R355). They fall when no slot is active and arm
is 0, or the bus has gone, or the hold time has passed since the last slot ended (R354; from when the hold counts is the model's
choice, assumption log 66), rail after rail from VCOM to VGL, and are OFF when the last is below 1 V (R356). A kick-back measurement
runs only with the rails UP, no slot active and the bus present, and ends with the rounded offset when its frames have been scanned
(R353). -/
def Obligations.RailsRiseFallAndMeasure : Prop :=
  (∀ (val : Word) (s : State), ∃ t, exec (.hvArm val) s = .next t ∧ t.reg R.HV_CTRL = val &&& 0xFF01#32 ∧
    s.regsOnly t [R.HV_CTRL]) ∧
  (∀ s : State,
    (s.prilRuns = true → s.mayRaise = true → s.railDemand = true → s.saf.failedMonitors = [] →
      ∃ t, exec .hvPowerUp s = .next t ∧ t.hvState = 1 ∧ t.bit R.HV_STATUS 10 = false ∧
        t.hv = { s.hv with charged := true, inForce := s.railCodes, seqAt := s.now } ∧ s.sameRegs t [R.HV_STATUS] ∧
        t = { s with regs := t.regs, hv := t.hv }) ∧
    (s.mayRaise = false → exec .hvPowerUp s = .next s) ∧
    (s.hvState = 1 → s.rampEnd 4 ≤ s.now → ∃ t, exec .hvRailsUp s = .next t ∧ t.hvState = 2 ∧ (∀ k, t.railOk k = true) ∧
      t.bit R.HV_ALERT 3 = true ∧ s.sameRegs t [R.HV_STATUS, R.HV_ALERT] ∧
      t = { s with regs := t.regs, hv := { s.hv with upAt := s.now, idleAt := s.now }, pf := t.pf }) ∧
    ((s.hvState ≠ 1 ∨ s.now < s.rampEnd 4) → exec .hvRailsUp s = .next s) ∧
    (s.hvState = 1 → ∀ k, (s.railOk k = true ↔ s.rampEnd k ≤ s.now)) ∧
    (s.hvState = 2 → s.scanning = false →
      (s.bit R.HV_CTRL 0 = false ∨ ((∀ n, n < 16 → (s.slotAt n).granted = false) ∧
        (s.onVres = true ∨ s.hv.idleAt + 4000000 * s.fld R.HV_CTRL 15 8 ≤ s.now))) →
      ∃ t, exec .hvPowerDown s = .next t ∧ t.hvState = 3 ∧ t.hv.seqAt = s.now ∧ t.railOk 4 = false ∧
        (∀ n, n < 16 → (t.slotAt n).granted = false) ∧ s.sameRegs t [R.HV_STATUS] ∧ t.pnl.pixels = s.pnl.pixels ∧ t.dies = s.dies ∧
        ((∀ n, n < 16 → (s.slotAt n).granted = false) →
          t = { s with regs := t.regs, freeCtr := s.freeCtr + 1, hv := { s.hv with seqAt := s.now, fallNo := s.freeCtr } })) ∧
    ((s.hvState ≠ 2 ∨ s.scanning = true ∨
        (s.bit R.HV_CTRL 0 = true ∧ s.onVres = false ∧ s.now < s.hv.idleAt + 4000000 * s.fld R.HV_CTRL 15 8)) →
      exec .hvPowerDown s = .next s) ∧
    (s.hvState = 3 → (∀ k, k < 4 → s.railOk (k + 1) = true → s.railOk k = true) ∧
      (s.now < s.fallStart 4 + s.fallTime 0 → exec .hvRailsDown s = .next s) ∧
      (s.fallStart 4 + s.fallTime 0 ≤ s.now → ∃ t, exec .hvRailsDown s = .next t ∧ t.hvState = 0 ∧ t.bit R.HV_ALERT 4 = true ∧
        t.hv = { s.hv with charged := false } ∧ s.sameRegs t [R.HV_STATUS, R.HV_ALERT] ∧
        t = { s with regs := t.regs, hv := t.hv, pf := t.pf }))) ∧
  (∀ (frames : BitVec 4) (s : State),
    (frames.toNat ≠ 0 → s.hvState = 2 → s.scanning = false → s.onVres = false →
      ∃ t, exec (.kickbackStart frames) s = .next t ∧ t.hvState = 6 ∧ t.bit R.HV_KICKBACK 8 = true ∧ t.hv.measured = 0 ∧
        t.fld R.HV_KICKBACK 3 0 = frames.toNat ∧ s.sameRegs t [R.HV_STATUS, R.HV_KICKBACK] ∧ t.pnl.pixels = s.pnl.pixels) ∧
    ((frames.toNat = 0 ∨ s.hvState ≠ 2 ∨ s.scanning = true ∨ s.onVres = true) →
      ∃ t, exec (.kickbackStart frames) s = .next t ∧ t.bit R.HV_ALERT 8 = true ∧ t.hvState = s.hvState ∧
        s.sameRegs t [R.HV_ALERT, R.HV_KICKBACK])) ∧
  (∀ (sensed : List Int) (s : State), s.hvState = 6 →
    (s.hv.measured < s.fld R.HV_KICKBACK 3 0 → exec (.kickbackDone sensed) s = .next s) ∧
    (s.fld R.HV_KICKBACK 3 0 ≤ s.hv.measured → sensed ≠ [] →
      let v : Int := 10 * s.railTarget 4
      let n : Int := sensed.length
      ∃ t o, exec (.kickbackDone sensed) s = .next t ∧ t.hvState = 2 ∧ t.bit R.HV_KICKBACK 8 = false ∧
        t.bit R.HV_KICKBACK 9 = true ∧ t.bit R.HV_ALERT 5 = true ∧ t.fld R.HV_KICKBACK 27 16 = codeOf 12 o ∧
        (-2048 * n ≤ sensed.sum - v * n → sensed.sum - v * n ≤ 2047 * n →
          -n ≤ 2 * (sensed.sum - v * n - o * n) ∧ 2 * (sensed.sum - v * n - o * n) ≤ n) ∧
        s.sameRegs t [R.HV_STATUS, R.HV_KICKBACK, R.HV_ALERT] ∧ t = { s with regs := t.regs, pf := t.pf, freeCtr := s.freeCtr + 1 }))

/-- A rail fault that the state and the reading allow is recorded in HV_FAULT with its attempt and phase and stops the converters and
the drive of the panel; cause 4 or the third attempt latches it as an urgent cause, any other waits 100 ms for its retry, and 1 s UP
without a fault clears the attempts (R344, R357-R359). VRES_LOW neither latches nor counts (R360). A re-arm with the
latch set and the rails discharged clears it and writes a record (R361). The trip card is drawn or skipped at its evaluation, after
the Parks of a supply reset (R99, R368, R369). -/
def Obligations.RailFaultsLatchAndRearm : Prop :=
  (∀ (rail : Fin 5) (cause : Fin 7) (reading : Int) (s : State),
    (s.faultPossible rail.val cause.val reading = false → exec (.hvFault rail cause reading) s = .next s) ∧
    (s.faultPossible rail.val cause.val reading = true →
      let attempts := satAt 3 (s.fld R.HV_FAULT 9 8 + 1)
      let phase := if s.hvState = 2 ∨ s.hvState = 6 then 1 else 0
      let latch := cause.val = 4 ∨ attempts = 3
      ∃ t, exec (.hvFault rail cause reading) s = .next t ∧ t.fld R.HV_FAULT 2 0 = rail.val ∧ t.fld R.HV_FAULT 6 4 = cause.val ∧
        t.fld R.HV_FAULT 9 8 = attempts ∧ t.fld R.HV_FAULT 10 10 = phase ∧ (t.bit R.HV_FAULT 15 = true ↔ latch) ∧
        t.bit R.HV_ALERT 1 = true ∧ (∀ k, t.railOk k = false) ∧ t.pnl.drive = [] ∧ t.hv.faultAt = s.now ∧
        (latch → t.hvState = 5 ∧ t.bit R.HV_ALERT 0 = true ∧ t.bit R.ALERT_SRC 8 = true ∧ t.pins.alertN = false) ∧
        (¬ latch → t.hvState = 4 ∧ t.pins = s.pins) ∧
        ((latch ∨ 0 < s.newlyUnknown) → ∃ e, t.tm.pend = s.tm.pend ++ [e] ∧ e.kind = kHv ∧ e.location = s.loc 1 0 0xB rail.val ∧
          (e.payload.take 4).map BitVec.toNat = [rail.val, cause.val, attempts, phase]) ∧
        (¬ (latch ∨ 0 < s.newlyUnknown) → t.tm = s.tm) ∧
        (∀ n, (t.slotAt n).active = false) ∧ t.dies = s.dies ∧
        s.sameRegs t [R.HV_FAULT, R.HV_STATUS, R.HV_ALERT, R.HV_KICKBACK, R.HV_TRIPCARD, R.PNL_STATUS, R.PNL_ALERT, R.ALERT_SRC])) ∧
  (∀ (rail : Fin 5) (reading : Int) (s : State),
    (s.faultPossible rail.val 4 reading = true →
      (rail = 0 → reading < -2500) ∧ (rail = 1 ∨ rail = 3 → 1700 < reading.natAbs) ∧ (rail = 2 → 2600 < reading) ∧
      (rail = 4 → reading < -300 ∨ 0 < reading)) ∧
    (s.hvState = 2 → s.railTarget rail.val = reading → s.faultPossible rail.val 5 reading = false)) ∧
  (∀ s : State,
    (s.railsPowered = true → s.fld R.HV_VRES 15 0 < 900 →
      ∃ t, exec .vresLow s = .next t ∧ t.fld R.HV_FAULT 2 0 = 5 ∧ t.fld R.HV_FAULT 6 4 = 6 ∧
        t.fld R.HV_FAULT 9 8 = s.fld R.HV_FAULT 9 8 ∧ t.bit R.HV_FAULT 15 = false ∧ t.bit R.HV_ALERT 2 = true ∧
        t.bit R.HV_STATUS 11 = true ∧ t.hvState = 4 ∧ t.pins = s.pins ∧ t.dies = s.dies) ∧
    (2000 ≤ s.fld R.HV_VRES 15 0 → ∃ t, exec .vresRecovered s = .next t ∧ t.bit R.HV_STATUS 11 = false ∧
      t.hvState = s.hvState ∧ s.regsOnly t [R.HV_STATUS]) ∧
    (s.hvState = 4 → s.hv.faultAt + 40000000 ≤ s.now → ∃ t, exec .hvRetryExpiry s = .next t ∧ t.hvState = 0 ∧
      t.hv = { s.hv with charged := false } ∧ s.sameRegs t [R.HV_STATUS] ∧
      t = { s with regs := t.regs, hv := t.hv }) ∧
    ((s.hvState ≠ 4 ∨ s.now < s.hv.faultAt + 40000000) → exec .hvRetryExpiry s = .next s) ∧
    ((s.hvState = 2 ∨ s.hvState = 6) → s.hv.upAt + 400000000 ≤ s.now → ∃ t, exec .hvAttemptsClear s = .next t ∧
      t.fld R.HV_FAULT 9 8 = 0 ∧
      (∀ i, i ≠ 8 → i ≠ 9 → t.bit R.HV_FAULT i = s.bit R.HV_FAULT i) ∧ s.regsOnly t [R.HV_FAULT]) ∧
    (s.now < s.hv.upAt + 400000000 → exec .hvAttemptsClear s = .next s)) ∧
  (∀ (code : BitVec 16) (s : State),
    (code.toNat ≠ 0x0C3A → exec (.hvRearm code) s = .next s) ∧
    (code.toNat = 0x0C3A → (s.bit R.HV_FAULT 15 = false ∨ s.hv.charged = true) →
      ∃ t, exec (.hvRearm code) s = .next t ∧ t.bit R.HV_ALERT 9 = true ∧ s.sameRegs t [R.HV_ALERT] ∧ t.hv = s.hv ∧
        t.tm = s.tm) ∧
    (code.toNat = 0x0C3A → s.bit R.HV_FAULT 15 = true → s.hv.charged = false →
      ∃ t e, exec (.hvRearm code) s = .next t ∧ t.bit R.HV_FAULT 15 = false ∧ t.fld R.HV_FAULT 9 8 = 0 ∧ t.hvState = 0 ∧
        t.tm.pend = s.tm.pend ++ [e] ∧ e.kind = kHv ∧ (e.payload.drop 3).head? = some 2#8 ∧
        s.sameRegs t [R.HV_FAULT, R.HV_STATUS])) ∧
  (∀ (i : Nat) (s : State), s.prilRuns = true → s.hv.cardWaits = true → s.hv.cardRecord = some i → s.hv.cardText = [] →
    (s.cardAfterPark = true → ∃ t, exec .tripCardDraw s = .next t ∧ t.fld R.HV_TRIPCARD 30 29 = 1 ∧ t.hv.cardWaits = true ∧
      t.pnl = s.pnl) ∧
    (s.cardAfterPark = false → s.cardAllowed = false → ∃ t, exec .tripCardDraw s = .next t ∧ t.fld R.HV_TRIPCARD 30 29 = 3 ∧
      t.bit R.HV_ALERT 7 = true ∧ t.hv.cardWaits = false ∧ t.pnl = s.pnl) ∧
    (s.cardAfterPark = false → s.cardAllowed = true → ∀ n, s.verdict s.cardRequest = .grant n →
      ∃ t up, exec .tripCardDraw s = .next t ∧ t.fld R.HV_TRIPCARD 30 29 = 1 ∧ t.hv.cardWaits = false ∧
        t.hv.cardText = cardText s.hv.cardCause i ((s.tm.record i).getD []) up ∧
        t.slotAt n = { s.cardRequest with granted := true, text := t.hv.cardText } ∧ (∀ m, m ≠ n → t.slotAt m = s.slotAt m) ∧
        s.sameRegs t [R.HV_TRIPCARD, R.PNL_STATUS]))

/-! ### Pairing (R371-R390) -/

/-- A valid pair frame is kept as the peer's last one with its arrival, and its register effects wait for the boundary (R31, R372,
R373); one that says PAIR_LOST while the pair is accepted declares the loss and closes the fence (R382, R383). A SLEEP frame is
noted (R381), a WAKE frame wakes the tray from Small hours as source 3 (R108, R111), an invalid frame is only counted (R373). Peer
loss is declared 3.2 ms after the last valid frame (R382). -/
def Obligations.PairFramesArrive : Prop :=
  (∀ (now : Nat) (b : List Byte) (s : State), s.frameValid b = true →
    let f := readFrame b
    let u := s.at now
    (s.prilRuns = true → ∀ c, (frameKind b = 1 ∧ c = Instr.beat now b) ∨ (frameKind b = 2 ∧ c = Instr.sleepFrame now b)
        ∨ (frameKind b = 4 ∧ c = Instr.unpairFrame now b) →
      ∃ t, exec c s = .next t ∧ t.pair.last = some f ∧ t.pair.lastAt = u.now ∧ t.pair.signalAt = some u.now ∧
        t.pair.inbox = s.pair.inbox ++ [{ frame := f, kind := frameKind b, state := s.pairState, ahead := u.aheadOf f, moved := s.ras.pairMoved }] ∧
        (frameKind b = 1 → t.pair.peerSleep = false) ∧ (frameKind b = 2 → t.pair.peerSleep = true) ∧
        (frameKind b = 4 → t.pair.peerSleep = s.pair.peerSleep) ∧
        (s.accepted = true → f.state = 4 → t.pair.newLoss = true ∧ t.pair.fence = true) ∧
        ((s.accepted = false ∨ f.state ≠ 4) → t.pair.newLoss = s.pair.newLoss ∧ t.pair.fence = s.pair.fence) ∧
        s.sameRegs t [R.PAIR_LINKS] ∧ t = { s with now := u.now, regs := t.regs, pair := t.pair, dies := t.dies }) ∧
    (frameKind b = 3 → s.pwr.smallHours = true → s.bit R.PWR_WAKE_EN 2 = true →
      ∃ t, exec (.wakeFrame now b) s = .next t ∧ t.pwr.smallHours = false ∧ t.pwr.stopped = false ∧ t.reg R.PWR_WAKE_SRC = 3 ∧
        t.bit R.PWR_ALERT 1 = true ∧ (2 ≤ s.fld R.MG_STATE 2 0 → s.saf.restart = 0 → t.pair.last = some f)) ∧
    (frameKind b = 3 → s.prilRuns = true → s.pwr.smallHours = false → ∃ t, exec (.wakeFrame now b) s = .next t ∧
      t.pair.last = some f ∧ t.pair.lastAt = u.now ∧ t.pair.peerSleep = false)) ∧
  (∀ (now : Nat) (b : List Byte) (s : State), s.prilRuns = true → s.frameValid b = false →
    let u := s.at now
    exec (.pairFrameInvalid now b) s =
      .next { u with pair := { s.pair with badFrames := s.pair.badFrames + 1, signalAt := some u.now } } ∧
    exec (.beat now b) s = .next u ∧ exec (.sleepFrame now b) s = .next u ∧ exec (.unpairFrame now b) s = .next u ∧
    exec (.wakeFrame now b) s = .next u) ∧
  (∀ (now : Nat) (s : State), s.prilRuns = true →
    let u := s.at now
    (s.accepted = true → (s.pair.sleepSent = false ∨ s.pair.peerSleep = false) → s.pair.lastAt + 1280000 ≤ u.now →
      s.pair.graceUntil ≤ u.now →
      exec (.peerLoss now) s = .next { u with pair := { s.pair with newLoss := true, fence := true } }) ∧
    ((s.accepted = false ∨ u.now < s.pair.lastAt + 1280000) → exec (.peerLoss now) s = .next u))

/-- CONFIRM_DOWN is refused unless the pair is lost, the serial check agrees and nothing signals; else the tray takes the claim in
SOLO (R384, R385). CLEAR_CLAIM drops it, UNPAIR leaves the pair with its error, RETRY clears the error and enters PAIRING (R390).
A checkpoint report joins the die's latest, and completes the tray checkpoint when every named die has reported it good (R388). -/
def Obligations.PairCommandsAndCheckpoints : Prop :=
  (∀ (check : BitVec 16) (s : State), s.prilRuns = true →
    let refused := s.pairState ≠ 4 ∨ check.toNat ≠ s.fld R.PAIR_PEER_SERIAL_LO 15 0 ∨ s.signalling = true
    (refused → ∃ t, exec (.confirmDown check) s = .next t ∧ t.bit R.PAIR_ALERT 11 = true ∧ s.sameRegs t [R.PAIR_ALERT] ∧
      t.pair = s.pair ∧ t.tm = s.tm) ∧
    (¬ refused → ∃ t e, exec (.confirmDown check) s = .next t ∧ t.pairState = 0 ∧ t.bit R.PAIR_STATE 13 = true ∧
      t.pair.claimSerial = s.peerSerial ∧ t.pair.fence = true ∧ t.tm.pend = s.tm.pend ++ [e] ∧ e.kind = kPair ∧
      e.payload.head? = some 4#8 ∧ s.sameRegs t [R.PAIR_STATE] ∧ t.dies = s.dies)) ∧
  (∀ s : State, s.prilRuns = true →
    (∃ t e, exec .unpair s = .next t ∧ t.pairState = 0 ∧ t.pairError = 8 ∧ t.bit R.PAIR_ALERT 12 = true ∧ t.pair.fence = true ∧
      t.tm.pend = s.tm.pend ++ [e] ∧ e.kind = kPair ∧ e.payload.head? = some 7#8 ∧
      s.sameRegs t [R.PAIR_STATE, R.PAIR_ALERT] ∧ t.dies = s.dies) ∧
    (s.bit R.PAIR_STATE 13 = true → ∃ t e, exec .clearClaim s = .next t ∧ t.bit R.PAIR_STATE 13 = false ∧
      t.pairState = (if s.pairState = 0 ∧ s.bit R.PAIR_CTRL 0 = true then 1 else s.pairState) ∧
      t.tm.pend = s.tm.pend ++ [e] ∧ e.payload.head? = some 5#8 ∧ s.sameRegs t [R.PAIR_STATE]) ∧
    (s.bit R.PAIR_STATE 13 = false → exec .clearClaim s = .next s) ∧
    (s.bit R.PAIR_CTRL 0 = true → ∃ t, exec .retry s = .next t ∧ t.pairError = 0 ∧
      t.pairState = (if s.pairState = 0 then 1 else s.pairState) ∧ s.regsOnly t [R.PAIR_STATE])) ∧
  (∀ (d : Die) (id : Nat) (good : Bool) (rest : List DieEvent) (s : State), s.pwr.stopped = false →
    takeFirst DieEvent.isCheckpoint s.dies[d].events = some (.checkpoint id good, rest) →
    ∃ t, exec (.checkpointReport d) s = .next t ∧ t.dies[d] = { s.dies[d] with events := rest } ∧
      t.pair = { s.pair with reports := s.pair.reports.set d (some (id, good)) } ∧
      (good = false → t.bit R.PAIR_ALERT 9 = true) ∧
      ((∀ e : Die, s.bit R.PAIR_CTRL (4 + e.val) = true → t.pair.reports[e] = some (id, true)) →
        t.fld R.PAIR_CHECKPOINT 15 0 = id % 65536 ∧ t.bit R.PAIR_STATE 14 = true) ∧
      ((∃ e : Die, s.bit R.PAIR_CTRL (4 + e.val) = true ∧ t.pair.reports[e] ≠ some (id, true)) →
        s.sameRegs t [R.PAIR_ALERT]) ∧
      s.sameRegs t [R.PAIR_ALERT, R.PAIR_CHECKPOINT, R.PAIR_STATE])

/-! ### Safety (R391-R405) -/

/-- A level-3 cause stops the tray at once: every die is in Midnight, ALERT_N is held low, the panel and the rails are off,
records not begun are dropped, of Tidemark at most the record being written changes, and the Prilliner's cores wait for the restart (R395, R399, R401). SAFE_RESTART brings the tray up
in SAFE with the cause latched, the lock and the epoch kept (R396, R432). -/
def Obligations.LevelThreeCausesStopTheTray : Prop :=
  (∀ (c : Instr) (i : Nat) (s : State), s.coresRun = true →
    ((c = .lockstepMismatch ∧ i = 3) ∨ (∃ n, c = .watchdogExpiry n ∧ s.fld R.SAF_WDT 7 0 ≤ n ∧ i = 4) ∨ (c = .clockFault ∧ i = 5)) →
    ∃ t, exec c s = .next t ∧ t.saf.restart = s.saf.restart ||| 2 ^ i ∧ t.pins.alertN = false ∧ t.pins.forcedLow = true ∧
      t.pnl.low = true ∧ t.pnl.drive = [] ∧ t.pnl.idle = none ∧ t.hv.disabled = true ∧ t.tm.pend = [] ∧ t.bit R.ALERT_SRC 8 = true ∧
      (∀ d : Die, t.dies[d].power = 5 ∧ t.dies[d].t0 = [] ∧ t.pwr.stopLines[d] = true) ∧ bitAt t.pf.intStatus 2 = true ∧
      t.pnl.pixels = s.pnl.pixels ∧ (s.tm.pend = [] → t.tm.cells = s.tm.cells) ∧
      (∀ a, ¬ (128 * s.nextRecord ≤ a ∧ a < 128 * s.nextRecord + 128) → t.tm.cells.read a = s.tm.cells.read a) ∧
      s.sameRegs t ([R.ALERT_SRC, R.PWR_STATE] ++ if i = 5 then [R.SAF_DIAG] else [])) ∧
  (∀ (missed : Nat) (s : State), missed < s.fld R.SAF_WDT 7 0 → exec (.watchdogExpiry missed) s = .next s) ∧
  (∀ (lockstepOk clockOk : Bool) (s : State), s.saf.restart ≠ 0 → s.pwr.stopped = false →
    ∃ t, exec (.safeRestart lockstepOk clockOk) s = .next t ∧ t.fld R.MG_STATE 2 0 = 3 ∧ t.reg R.SAF_STATE = 0xF ∧
      t.bit R.MG_RESET_CAUSE 4 = s.saf.restart.testBit 3 ∧ t.bit R.MG_RESET_CAUSE 3 = s.saf.restart.testBit 4 ∧
      (∀ i ∈ [3, 4, 5], s.saf.restart.testBit i = true → t.bit R.SAF_CAUSE i = true) ∧
      t.bit R.CFG_STATUS 0 = s.bit R.CFG_STATUS 0 ∧ t.reg R.CFG_EPOCH = s.reg R.CFG_EPOCH ∧ t.saf.restart = 0 ∧
      t.pins.alertN = false ∧ t.bit R.SAF_ALERT 0 = true ∧ t.port = { held := none, queue := [], miso := [] } ∧
      (∀ d : Die, t.dies[d].power = 5 ∧ t.dies[d].t0 = [] ∧ t.pwrTarget d = 5) ∧ t.tm.cells = s.tm.cells ∧
      (∃ e ∈ t.tm.pend, e.kind = kSafety ∧ e.payload.head? = some 3#8) ∧ t.pnl.wave = s.pnl.wave) ∧
  (∀ (lockstepOk clockOk : Bool) (s : State), s.saf.restart = 0 → exec (.safeRestart lockstepOk clockOk) s = .next s)

/-- The state is the highest level of the causes, or the adopted one (R392, R397): CONTROLLER_SILENT sets its cause, KICK clears
it (R400), CLEAR clears the sticky causes whose test passes (R393), MARK writes a record and changes nothing else (R394). A
monitor self-test counts and reports (R402); an uncorrectable error of the Prilliner's SRAM is counted and acts where it falls
(R404, R405). -/
def Obligations.SafetyStateFollowsItsCauses : Prop :=
  (∀ s : State, s.prilRuns = true →
    let cond := s.causeConditions
    (cond.testBit 13 = true → ∃ t, exec .controllerSilent s = .next t ∧ t.bit R.SAF_CAUSE 13 = true ∧
      t.fld R.SAF_STATE 3 2 = ownLevel ((s.fld R.SAF_CAUSE 14 0 &&& 0x46F8) ||| cond) ∧
      t.fld R.SAF_STATE 1 0 = max (t.fld R.SAF_STATE 3 2) s.adoptedLevel) ∧
    (cond.testBit 13 = false → exec .controllerSilent s = .next s) ∧
    (∃ t, exec .kick s = .next t ∧ t.saf.heartbeat = 0 ∧ t.bit R.SAF_CAUSE 13 = false ∧
      t.fld R.SAF_STATE 1 0 = max (t.fld R.SAF_STATE 3 2) s.adoptedLevel) ∧
    (∃ t, exec .clear s = .next t ∧
      t.bit R.SAF_CAUSE 3 = (s.bit R.SAF_CAUSE 3 && !s.bit R.SAF_DIAG 0) ∧ t.bit R.SAF_CAUSE 4 = false ∧
      t.bit R.SAF_CAUSE 5 = (s.bit R.SAF_CAUSE 5 && !s.bit R.SAF_DIAG 2) ∧
      t.bit R.SAF_CAUSE 6 = (s.bit R.SAF_CAUSE 6 && !s.bit R.SAF_DIAG 1) ∧
      t.bit R.SAF_CAUSE 7 = (s.bit R.SAF_CAUSE 7 && decide (s.fld R.SAF_DIAG 10 7 ≠ 0)) ∧
      t.bit R.SAF_CAUSE 9 = false ∧ t.bit R.SAF_CAUSE 10 = false ∧ t.bit R.SAF_CAUSE 14 = false ∧
      t.fld R.SAF_STATE 1 0 = max (t.fld R.SAF_STATE 3 2) s.adoptedLevel) ∧
    (∃ e, exec .mark s = .next { s with tm := { s.tm with pend := s.tm.pend ++ [e] } } ∧ e.kind = kSafety ∧
      e.payload.head? = some 4#8 ∧ e.location = s.locPril)) ∧
  (∀ s : State, s.prilRuns = true →
    (∃ t, exec (.monitorSelfTest []) s = .next t ∧ t.fld R.SAF_DIAG 31 16 = (s.fld R.SAF_DIAG 31 16 + 1) % 65536 ∧
      t.bit R.SAF_DIAG 1 = true ∧ s.sameRegs t [R.SAF_DIAG] ∧
      t = { s with regs := t.regs, saf := { s.saf with failedMonitors := [] } }) ∧
    (∀ failed, failed ≠ [] → ∃ t, exec (.monitorSelfTest failed) s = .next t ∧ t.bit R.SAF_DIAG 1 = false ∧
      t.bit R.SAF_CAUSE 6 = true ∧ t.bit R.SAF_ALERT 2 = true ∧ t.saf.failedMonitors = failed ∧
      (MonitorId.sag ∈ failed → t.bit R.SUP_STATUS 1 = true ∨ s.sup.sagOn = true))) ∧
  (∀ (region : SramRegion) (unit : Nat) (s : State), s.coresRun = true → s.pnl.pixels.wf pixelReset = true →
    ∃ t, exec (.mgmtSramUe region unit) s = .next t ∧
      t.fld R.SAF_ECC 31 24 = satAt 255 (s.fld R.SAF_ECC 31 24 + 1) ∧ t.bit R.SAF_CAUSE 10 = true ∧ t.bit R.SAF_ALERT 3 = true ∧
      (region = .pixel → ∀ k, t.pixel k = if k = 2 * unit ∨ k = 2 * unit + 1 then setField (s.pixel k) 31 28 8 else s.pixel k) ∧
      (region = .waveform → unit < 0x100000 → t.wfValid (unit / 0x20000) = false) ∧
      (region = .work → unit < 0x100000 → unit * 8 ∈ t.pnl.workBad) ∧
      (region = .cores → t.saf.restart = s.saf.restart ||| 8) ∧
      (region ≠ .cores → t.dies = s.dies ∧ t.saf = s.saf) ∧ (region ≠ .pixel → t.pnl.pixels = s.pnl.pixels))

/-! ### Images and the start (R434-R441) -/

/-- An image is loaded into the inactive bank word by word, verified and made active, or aborted and emptied (R437, R438). The
firmware starts from a bank that passes, with a latched trip restored; with none the tray is in RECOVERY (R434, R437). The
microcode is taken from a bank that passes, and held raises proceed (R435). -/
def Obligations.ImagesAreLoadedVerifiedAndStarted : Prop :=
  (∀ s : State, s.coresRun = true →
    (∀ target : BitVec 2, s.imgState ≠ 2 → target.toNat ≤ 1 → ∃ t, exec (.imgOpen target) s = .next t ∧ t.imgState = 1 ∧
      t.reg R.MG_IMG_ADDR = 0 ∧ t.img.target = target.toNat ∧ t.img.inactive target.toNat = Bank.empty ∧
      t.img.active target.toNat = s.img.active target.toNat ∧ s.sameRegs t [R.MG_IMG_ADDR, R.MG_IMG_STATUS]) ∧
    (∀ target : BitVec 2, (s.imgState = 2 ∨ 1 < target.toNat) → exec (.imgOpen target) s = .next s) ∧
    (∀ w, s.imgState = 1 → s.img.target ≤ 1 → s.fld R.MG_IMG_ADDR 23 0 < maxPayload s.img.target + 32 →
      (s.img.inactive s.img.target).words.wf 0 = true → ∃ t, exec (.imageDataWrite w) s = .next t ∧
      t.fld R.MG_IMG_ADDR 23 0 = s.fld R.MG_IMG_ADDR 23 0 + 1 ∧
      (t.img.inactive s.img.target).word (s.fld R.MG_IMG_ADDR 23 0) = w.toNat ∧
      (∀ i, i ≠ s.fld R.MG_IMG_ADDR 23 0 → (t.img.inactive s.img.target).word i = (s.img.inactive s.img.target).word i) ∧
      t.img.active s.img.target = s.img.active s.img.target ∧ s.sameRegs t [R.MG_IMG_ADDR]) ∧
    (∀ w, s.imgState ≠ 1 → exec (.imageDataWrite w) s = .next s ∧ exec .verify s = .next s) ∧
    (s.imgState = 1 → ∃ t, exec .verify s = .next t ∧ t.imgState = 2 ∧ s.regsOnly t [R.MG_IMG_STATUS]) ∧
    ((s.imgState = 1 ∨ s.imgState = 2) → s.img.target ≤ 1 → ∃ t, exec .abort s = .next t ∧ t.imgState = 0 ∧
      t.fld R.MG_IMG_STATUS 15 8 = 6 ∧ t.img.inactive s.img.target = Bank.empty ∧
      t.img.active s.img.target = s.img.active s.img.target ∧ s.sameRegs t [R.MG_IMG_STATUS]) ∧
    (∀ storeOk pairSel : Bool, s.imgState = 2 →
      let r := if storeOk then (s.img.inactive s.img.target).check s.img.target else 7
      ∃ t, exec (.imageVerified ⟨storeOk, pairSel⟩) s = .next t ∧
        (r ≠ 1 → t.imgState = 4 ∧ t.fld R.MG_IMG_STATUS 15 8 = r ∧ t.bit R.ALERT_PORT 3 = true ∧ t.img = s.img ∧
          s.sameRegs t [R.MG_IMG_STATUS, R.ALERT_PORT]) ∧
        (r = 1 → s.img.target = 1 → t.imgState = 3 ∧ t.fld R.MG_IMG_STATUS 15 8 = 1 ∧ t.img.active 1 = s.img.inactive 1 ∧
          t.img.inactive 1 = s.img.active 1 ∧ t.pwr.ucodeOk = true ∧
          (s.pwr.ucodeOk = false → (t.reg R.ID_UCODE_VERSION).toNat = (s.img.inactive 1).word 2 % 2 ^ 24) ∧
          (s.pwr.ucodeOk = true → t.reg R.ID_UCODE_VERSION = s.reg R.ID_UCODE_VERSION)) ∧
        (r = 1 → s.img.target = 0 → s.fld R.MG_STATE 2 0 = 1 → t.fld R.MG_STATE 2 0 = 0 ∧ t.reg R.MG_RESET_CAUSE = 2 ∧
          t.bit R.ID_STRAPS 0 = pairSel ∧ t.img.active 0 = s.img.inactive 0))) ∧
  (∀ (lockstepOk clockOk : Bool) (s : State), s.fld R.MG_STATE 2 0 = 0 → s.pwr.stopped = false → s.img.booted = false →
    let a := (s.img.active 0).check 0
    let b := (s.img.inactive 0).check 0
    ∃ t, exec (.firmwareStart lockstepOk clockOk) s = .next t ∧ t.bit R.SAF_DIAG 0 = lockstepOk ∧ t.bit R.SAF_DIAG 2 = clockOk ∧
      (a = 1 → t.img = { s.img with booted := true } ∧ t.fld R.MG_STATE 2 0 = 0 ∧
        (t.reg R.ID_FW_VERSION).toNat = (s.img.active 0).word 2 % 2 ^ 24) ∧
      (a ≠ 1 → b = 1 → t.img.active 0 = s.img.inactive 0 ∧ t.img.booted = true ∧ t.fld R.MG_IMG_STATUS 15 8 = a) ∧
      (a ≠ 1 → b ≠ 1 → t.fld R.MG_STATE 2 0 = 1 ∧ t.img = s.img ∧ t.bit R.ALERT_PORT 4 = true)) ∧
  (∀ s : State, s.prilRuns = true → s.pwr.ucodeOk = false →
    ∃ t, exec .microcodeVerified s = .next t ∧
      ((s.img.active 1).check 1 = 1 → (t.reg R.ID_UCODE_VERSION).toNat = (s.img.active 1).word 2 % 2 ^ 24 ∧
        s.sameRegs t [R.ID_UCODE_VERSION] ∧ t = { s with regs := t.regs, pwr := { s.pwr with ucodeOk := true } }) ∧
      ((s.img.active 1).check 1 ≠ 1 → (s.img.inactive 1).check 1 = 1 →
        t.img.active 1 = s.img.inactive 1 ∧ t.pwr.ucodeOk = true) ∧
      ((s.img.active 1).check 1 ≠ 1 → (s.img.inactive 1).check 1 ≠ 1 → t = s))

/-! ### The plane bridge (R33-R36) -/

/-- A die that executes no step acts on the message at the front when it is delivered (R34): a deeper state only when idle (R106),
the clock steps (R126), the epoch (R187), the wake values (R109). The Prilliner takes a die's oldest event other than a checkpoint
report (R33): a state reached, an uncorrectable error, a doorbell, a failed raise. -/
def Obligations.BridgeMessagesAndEvents : Prop :=
  (∀ (d : Die) (m : BridgeMsg) (rest : List BridgeMsg) (s : State), s.dies[d].msgs = m :: rest → s.dies[d].power < 5 →
    s.dies[d].moving = none → (∀ e : Fin 3, s.dies[d].engines[e].running = none) →
    (∀ n, m = .power n →
      (n = s.dies[d].power → exec (.bridgeMessage d) s = .next (s.modDie d fun x =>
        { x with msgs := rest, bellFrom := none, events := x.events ++ [.stateReached n true] })) ∧
      (n ≠ s.dies[d].power → (n < s.dies[d].power ∨ s.dieIdle d = true) → exec (.bridgeMessage d) s = .next (s.modDie d fun x =>
        { x with msgs := rest, bellFrom := none, moving := some (n, true) })) ∧
      (s.dies[d].power < n → s.dieIdle d = false → exec (.bridgeMessage d) s = .next (s.modDie d fun x =>
        { x with msgs := rest, bellFrom := none }))) ∧
    (∀ a b, m = .throttle a b → exec (.bridgeMessage d) s = .next (s.modDie d fun x =>
      { x with msgs := rest, thermSteps := a, capSteps := b })) ∧
    (∀ a b, m = .wakeConfig a b → exec (.bridgeMessage d) s = .next (s.modDie d fun x =>
      { x with msgs := rest, wakeDoorbell := a, autoIdle := b })) ∧
    (∀ w, m = .epoch w → ∃ t, exec (.bridgeMessage d) s = .next t ∧ t.dies[d].msgs = rest ∧ t.dies[d].cmdBlk[4] = w ∧
      t.regs = s.regs ∧ ∀ q : QIdx, (s.dies[d].queues[q].state = 0 ∨ s.dies[d].queues[q].epoch = w) →
        t.dies[d].queues[q].stale = s.dies[d].queues[q].stale) ∧
    (∀ w, m = .epoch w → ∃ t, exec (.bridgeMessage d) s = .next t ∧
      ∀ q : QIdx, s.dies[d].queues[q].state ≠ 0 → s.dies[d].queues[q].epoch ≠ w → t.dies[d].queues[q].stale = true)) ∧
  (∀ (d : Die) (e : DieEvent) (rest : List DieEvent) (s : State), s.pwr.stopped = false →
    takeFirst (fun e => !e.isCheckpoint) s.dies[d].events = some (e, rest) →
    ∃ t, exec (.dieBridgeEvent d) s = .next t ∧ t.dies[d] = { s.dies[d] with events := rest } ∧
      (∀ n driven, e = .stateReached n driven → t.pwr = { s.pwr with report := s.pwr.report.set d (s.pwr.report[d] ++ [(n, driven)]) } ∧
        t.regs = s.regs) ∧
      (∀ loc, e = .memUe loc → t.fld R.SAF_ECC 15 0 = satAt 65535 (s.fld R.SAF_ECC 15 0 + 1) ∧ t.bit R.SAF_CAUSE 9 = true ∧
        t.bit R.SAF_ALERT 3 = true ∧ t.saf = { s.saf with locs := s.saf.locs ++ [(9, loc)] }) ∧
      (e = .doorbellWake → t.pwr = { s.pwr with wakeDie := s.pwr.wakeDie.set d true } ∧ t.regs = s.regs) ∧
      (∀ loc, e = .raiseFailed loc → t.bit R.SAF_CAUSE 9 = true ∧ t.bit R.SAF_ALERT 3 = true ∧
        t.saf = { s.saf with raiseFails := s.saf.raiseFails ++ [loc] }) ∧
      s.sameRegs t [R.SAF_ECC, R.SAF_CAUSE, R.SAF_ALERT])

/-! ### The engines' commands (R190, R191, R237-R263, R278-R293, R317-R324) -/

/-- The COMPUTE command that Weir starts does its work on the memory as it stands, but that what the commands before it in its queue
are still writing is open (R168; assumption log 12) (R237, R239, R261-R263): where no access fails
and its outputs overlap nothing, it runs on with the outputs written and its result. A read or a write that fails ends it with
that status (R146). With no such command to start, nothing happens. -/
def Obligations.ComputeCommandsRun : Prop :=
  ∀ (d : Die) (q : QIdx) (s : State), s.memoriesOk →
    let v := viewOf (.die d) q
    ∀ p ∈ ([(.gemm d q, 0x10, fun b l => b.gemmWork v l), (.conv3d d q, 0x11, fun b l => b.convWork v l),
        (.attendBwd d q, 0x13, fun b l => b.attendBwdWork v d l), (.stats d q, 0x14, fun b l => b.statsWork v l),
        (.eltwise d q, 0x15, fun b l => b.eltwiseWork v l), (.panelClassify d q, 0x16, fun b l => b.classifyWork v l)]
        : List (Instr × Nat × (State → Live → Work))),
      (s.startable d q p.2.1 = none → exec p.1 s = .next s) ∧
      (∀ n l, s.startable d q p.2.1 = some (n, l) →
        let w := p.2.2 ((s.beginExec d q n).veil d q n) l
        (s.workFits v w → ∃ t, exec p.1 s = .next t ∧ s.workDone t d q n l w) ∧
        (∀ f, s.readFail v (w.checks ++ w.reads) = some f → ∃ t, exec p.1 s = .next t ∧ s.endedWith t d q n f.status) ∧
        (∀ f, s.readFail v (w.checks ++ w.reads) = none → s.writeFail v (emitSpans w.emits) = some f →
          ∃ t, exec p.1 s = .next t ∧ s.endedWith t d q n f.status))

/-- ATTEND walks its pages first: a latent page under a plain chain ends it, a page outside the pool ends or stalls it and is
counted, and the pages fetched before it get their stamps (R285, R306, R309); else its work is done on the memory as it stands
(R278-R287). PAGE_FILL brings the page of a stalled command that was preempted, which then repeats its step (R309). -/
def Obligations.AttendRunsStallsOrEnds : Prop :=
  (∀ (d : Die) (q : QIdx) (n : Nat) (l : Live) (s : State), s.memoriesOk → s.startable d q 0x12 = some (n, l) → l.stall = 0 →
    l.fetched = [] →
    let v := viewOf (.die d) q
    let a := attendOf l
    let b := s.beginExec d q n
    let before := b.fetchedBefore d l a
    let stamped (t : State) := s.sameBytesBut t (fun x => ∃ e ∈ b.stampEmits d l before, ∃ i, i < e.data.length ∧
      s.routeFn v.fn v.tw (e.addr + i) = .ok x)
    (∀ f, b.readFail v (b.walkSpans d l a) = some f → ∃ t, exec (.attend d q) s = .next t ∧ s.endedWith t d q n f.status) ∧
    (b.readFail v (b.walkSpans d l a) = none →
      (b.attStop d l a = some .latent → ∃ t, exec (.attend d q) s = .next t ∧ s.endedWith t d q n stLatent ∧ stamped t) ∧
      (b.attStop d l a = some .miss → ∃ t, exec (.attend d q) s = .next t ∧ s.endedWith t d q n stPageMiss ∧ stamped t ∧
        field t.dies[d].pageBlk[14] 31 16 = satAt 65535 (field s.dies[d].pageBlk[14] 31 16 + 1)) ∧
      (∀ m i, b.attStop d l a = some (.stall m i) → ∃ t, exec (.attend d q) s = .next t ∧ stamped t ∧
        t.dies[d].queues[q].live[n]? =
          some { l with phase := .running, stall := 1, fetched := b.entriesOfFetches d before } ∧
        t.dies[d].engines[engineIdx (engineOf q)].running = some q ∧
        field t.dies[d].pageBlk[14] 15 0 = satAt 65535 (field s.dies[d].pageBlk[14] 15 0 + 1)) ∧
      (b.attStop d l a = none → ∀ w, w = (b.veil d q n).attendWork b v d l a → s.workFits v w →
        ∃ t, exec (.attend d q) s = .next t ∧ s.workDone t d q n l w))) ∧
  (∀ (d : Die) (q : QIdx) (i : Nat) (l : Live) (s : State), s.dieRuns d = true → s.stalledAt d q = some (i, l) →
    ∀ n p, (s.asFetched d l).attStop d l (attendOf l) = some (.stall n p) →
      let r := s.bring d (queueRequester (.die d) q) n (readSeq (l.note (0x1000 + n))) p
      (r.st = 0 → l.phase = .preempted → ∃ t, exec (.pageFill d ⟨q, .none⟩) s = .next t ∧
        t.dies[d].queues[q].live[i]? = some { l with stall := 2 } ∧ (∀ x, t.peek x = r.s.peek x) ∧ t.regs = s.regs) ∧
      (r.st ≠ 0 → ∃ t m, exec (.pageFill d ⟨q, .none⟩) s = .next t ∧ t.dies[d].queues[q].live[i]? = some m ∧ m.phase = .ended ∧
        m.status = r.st ∧ m.location = r.loc ∧ (∀ x, t.peek x = r.s.peek x)))

/-- COPY, FILL, CONVERT and TRANSPOSE write every element of their destination (R190, R191): the source's code, the pattern, the
converted value, the permuted source's code, where no command before it in its queue is still writing (R168). A failed access ends them (R146); every other byte reads as before. -/
def Obligations.CopyCommandsMoveTheirElements : Prop :=
  ∀ (d : Die) (q : QIdx) (n : Nat) (l : Live) (s : State), s.memoriesOk →
    let v := viewOf (.die d) q
    let body := l.bytes.drop 16
    let src := l.descs.getD 0 Desc.none
    let dst := l.descs.getD 1 Desc.none
    ∀ p ∈ ([(.copy d q, 0x20), (.fill d q, 0x21), (.convert d q, 0x22), (.transpose d q, 0x23)] : List (Instr × Nat)),
      s.startable d q p.2 = some (n, l) →
      let w := ((s.beginExec d q n).veil d q n).copyWork v p.2 l
      (s.workFits v w → ∃ t, exec p.1 s = .next t ∧ s.workDone t d q n l w ∧
        (s.unwritten d q n → p.2 = 0x20 → src.format = dst.format → ∀ r i, r < dst.rows → i < dst.dims[0] →
          t.elemCode v dst (i :: dst.rowIx r) = s.elemCode v src (i :: dst.rowIx r)) ∧
        (p.2 = 0x21 → ∀ r i, r < src.rows → i < src.dims[0] →
          t.elemCode v src (i :: src.rowIx r) = leAt body 8 8 % 2 ^ formatBits src.format) ∧
        (s.unwritten d q n → p.2 = 0x22 → dst.mx = false → ∀ r i, r < dst.rows → i < dst.dims[0] →
          t.elemCode v dst (i :: dst.rowIx r) =
            convert dst.format false (byteAt body 4) (byteAt body 5) (s.elemVal v src (i :: dst.rowIx r)) % 2 ^ formatBits dst.format) ∧
        (s.unwritten d q n → p.2 = 0x23 → src.format = dst.format → src.rank = 2 → dst.rank = 2 → permAt body 0 = 1 → permAt body 1 = 0 →
          ∀ r i, r < dst.rows → i < dst.dims[0] → t.elemCode v dst [i, r] = s.elemCode v src [r, i])) ∧
      (∀ f, s.writeFail v w.reads = some f → ∃ t, exec p.1 s = .next t ∧ s.endedWith t d q n f.status) ∧
      (∀ f, s.writeFail v w.reads = none → s.writeFail v (emitSpans w.emits) = some f →
        ∃ t, exec p.1 s = .next t ∧ s.endedWith t d q n f.status)

/-- The PAGE command that Weir starts does its work (R318-R322): where nothing fails it runs on with its two counts as its result
(R323), else it ends with the counts so far and the failure's status and place. SHADOW without a pair is PEER_UNAVAIL (R316). It changes no register of
the Prilliner and no other command. -/
def Obligations.PageCommandsRun : Prop :=
  ∀ (d : Die) (q : QIdx) (s : State),
    ∀ p ∈ ([(.map d q, 0x30, State.mapWork, 1), (.share d q, 0x31, State.shareWork, 1), (.cow d q, 0x32, State.cowWork, 1),
        (.spill d q, 0x33, State.spillWork, 16), (.prefetch d q, 0x34, State.prefetchWork, 1),
        (.evict d q, 0x35, State.evictWork, 1), (.shadow d q, 0x36, State.shadowWork, 1),
        (.compact d q, 0x37, State.compactWork, 16)] : List (Instr × Nat × (State → PageCtx → Pg) × Nat)),
      (s.startable d q p.2.1 = none → exec p.1 s = .next s) ∧
      (∀ n l, s.startable d q p.2.1 = some (n, l) →
        let r := p.2.2.1 (s.beginPage d q n) (pageCtx d q l)
        let counts := satAt 65535 r.n + satAt 65535 (r.k / p.2.2.2) * 65536
        (r.st = 0 → ∃ t, exec p.1 s = .next t ∧
          t.dies[d].queues[q].live[n]? =
            some { l with phase := .running, result := counts } ∧
          t.dies[d].engines[engineIdx (engineOf q)].running = some q ∧ (∀ x, t.peek x = r.s.peek x) ∧ t.regs = s.regs ∧
          s.otherCommandsSame t d q n) ∧
        (r.st ≠ 0 → ∃ t m, exec p.1 s = .next t ∧ s.endedWith t d q n r.st ∧ t.dies[d].queues[q].live[n]? = some m ∧
          m.location = r.loc ∧ m.result = counts ∧ (∀ x, t.peek x = r.s.peek x)) ∧
        (p.2.1 = 0x36 → s.fld R.PAIR_STATE 2 0 ≠ 2 → ∃ t, exec p.1 s = .next t ∧ s.endedWith t d q n stPeerUnavail ∧ s.sameBytes t))

/-- Autonomous spill runs only while the pool is above its watermark and it is Weir's choice for the PAGE engine (R195): it
moves one page at a time (R308). PG_CTRL.enable is set only with its tables and regions in order, and cleared only with the PAGE
queues disabled and no spill under way (R324). -/
def Obligations.AutoSpillAndPageEnable : Prop :=
  (∀ (d : Die) (s : State),
    (s.spillWanted d = false →
      (s.dies[d].page.spilling = false → exec (.autoSpill ⟨d, .none⟩) s = .next s) ∧
      (s.dies[d].page.spilling = true → ∃ t, exec (.autoSpill ⟨d, .none⟩) s = .next t ∧ t.dies[d].page.spilling = false ∧
        bitAt t.dies[d].pageBlk[1] 20 = false ∧ s.sameBytes t ∧ t.regs = s.regs)) ∧
    (s.spillWanted d = true →
      (s.spillTurn d = false → exec (.autoSpill ⟨d, .none⟩) s = .next s) ∧
      (s.spillTurn d = true →
        let r := (s.startSpill d).spillPool d (.engine .page 8)
        r.st = 0 → ∃ t, exec (.autoSpill ⟨d, .none⟩) s = .next t ∧ (∀ x, t.peek x = r.s.peek x) ∧
          t.dies[d].page.spilling = r.s.spillWanted d ∧ bitAt t.dies[d].pageBlk[1] 20 = r.s.spillWanted d ∧
          t.regs = s.regs))) ∧
  (∀ (d : Die) (val : Word) (s : State), s.reachable (.die d) = true →
    (s.paged d = false → bitAt val 0 = false → ∃ t, exec (.pageEnable d val) s = .next t ∧ t.paged d = false ∧
      field t.dies[d].pageBlk[0] 2 1 = field val 2 1 ∧ s.dieOnly t d ∧ s.sameBytes t) ∧
    (s.paged d = false → bitAt val 0 = true →
      let x := { s.dies[d] with pageBlk := s.dies[d].pageBlk.set 0 (setBit (setField s.dies[d].pageBlk[0] 2 1 (field val 2 1)) 0 false) }
      (x.pageReady = true → ∃ t, exec (.pageEnable d val) s = .next t ∧ t.paged d = true ∧
        field t.dies[d].pageBlk[0] 2 1 = field val 2 1 ∧ s.dieOnly t d ∧ s.sameBytes t) ∧
      (x.pageReady = false → ∃ t, exec (.pageEnable d val) s = .next t ∧ t.paged d = false ∧
        bitAt t.dies[d].pageBlk[15] 4 = true ∧ s.sameBytes t)) ∧
    (s.paged d = true → bitAt val 0 = false →
      ((∀ q : QIdx, engineOf q = .page → s.dies[d].queues[q].state = 0) → s.dies[d].page.spilling = false →
        ∃ t, exec (.pageEnable d val) s = .next t ∧ t.paged d = false ∧ s.dieOnly t d ∧ s.sameBytes t) ∧
      (((∃ q : QIdx, engineOf q = .page ∧ s.dies[d].queues[q].state ≠ 0) ∨ s.dies[d].page.spilling = true) →
        ∃ t, exec (.pageEnable d val) s = .next t ∧ t.paged d = true ∧ bitAt t.dies[d].pageBlk[15] 4 = true ∧ s.sameBytes t)))

/-! ### The life of a command (R172-R216) -/

/-- A step that ends without a fault leaves its command running and counts as a step; the last one, once the command has as many as
its operands give it, ends it with OK and frees the engine (R207); a command of a halted queue ends CANCELLED at its step's end
(R185). An uncorrectable error at a byte that memory holds, a link that cuts an operand off, a failed host read or an error of a
core's arrays or staging buffers ends it with the status of R145 to R147. At the end of a step, or at a stall, a non-URGENT command
yields its engine to an eligible command of the slot, and resumes when none is left (R209). -/
def Obligations.StepsEndAndPreempt : Prop :=
  (∀ (d : Die) (e : Engine) (q : QIdx) (n : Nat) (l : Live) (s : State), s.dies[d].power = 0 → e ≠ .panel →
    engineOf q = e → s.runningAt d e = some (q, n, l) → l.stall = 0 → s.dies[d].msgs = [] → s.dies[d].queues[q].stale = false →
    (∀ c : Die, s.sw.toPf[c] = []) →
    (l.cancel = false → s.fewestSteps d q l ≤ l.steps + 1 → s.mixed l.undo = false →
      ∃ t, exec (.executionStepEnd (.die d) e true .none) s = .next t ∧
        t.dies[d].queues[q].live[n]? = some { l with phase := .ended, status := stOk, location := 0 } ∧
        t.dies[d].engines[engineIdx e].running = none ∧ s.dieOnly t d ∧ s.sameBytes t) ∧
    (∀ last, l.cancel = false → (last = false ∨ l.steps + 1 < s.fewestSteps d q l) →
      ∃ t, exec (.executionStepEnd (.die d) e last .none) s = .next t ∧
        t.dies[d].queues[q].live[n]? = some { l with steps := l.steps + 1 } ∧
        t.dies[d].engines = s.dies[d].engines.set (engineIdx e)
          { s.dies[d].engines[engineIdx e] with boundary := s.urgentEligible d e } ∧ s.dieOnly t d ∧ s.sameBytes t) ∧
    (∀ last, l.cancel = true → ∃ t m, exec (.executionStepEnd (.die d) e last .none) s = .next t ∧
      t.dies[d].queues[q].live[n]? = some m ∧ m.phase = .ended ∧ m.status = stCancelled ∧
      t.dies[d].engines[engineIdx e].running = none ∧ t.regs = s.regs) ∧
    (∀ ev st, ((∃ a, ev = .uncorrectable a ∧ isLocal a = true ∧ s.written d a = true ∧ engineOf q ≠ .copy ∧ st = stMemUe)
        ∨ (∃ k, ev = .linkLost k ∧ s.cutOff d q l k ≠ [] ∧
            (∀ p ∈ s.cutOff d q l k, ∀ i, i < p.2 → ∃ c, s.routeFn (.die d) (twinAllowed (.die d) q) (p.1 + i) = .error c) ∧
            st = stLinkDown)
        ∨ (∃ a h, ev = .hostAbort a ∧ s.routeFn (.die d) (twinAllowed (.die d) q) a = .ok (.host h) ∧ st = stMemRange)
        ∨ (∃ a h, ev = .hostPoison a ∧ s.routeFn (.die d) (twinAllowed (.die d) q) a = .ok (.host h) ∧ st = stMemUe)
        ∨ (∃ c a, (ev = .arrayError c a ∨ ev = .stagingError c a) ∧ engineOf q = .compute ∧ st = stMemUe)) →
      ∀ last, ∃ t m, exec (.executionStepEnd (.die d) e last ev) s = .next t ∧ t.dies[d].queues[q].live[n]? = some m ∧
        m.phase = .ended ∧ m.status = st ∧ t.dies[d].engines[engineIdx e].running = none ∧
        bitAt t.dies[d].linkBlk[8] 0 = true ∧ t.regs = s.regs)) ∧
  (∀ (d : Die) (e : Engine) (q : QIdx) (s : State), s.dieRuns d = true → e ≠ .panel →
    let en := s.dies[d].engines[engineIdx e]
    let stalled := s.dies[d].queues[q].live.any (fun l => decide (l.phase = .running ∧ l.stall = 1))
    (en.running = some q → en.saved = none → s.dies[d].queues[q].cls ≠ 0 → s.urgentEligible d e = true →
      (en.boundary = true ∨ stalled = true) →
      ∃ t, exec (.preemption d e) s = .next t ∧
        t.dies[d].engines[engineIdx e] = { en with running := none, saved := some q, boundary := false } ∧
        t.dies[d].queues[q].live = s.dies[d].queues[q].live.map (fun l =>
          if l.phase = .running then { l with phase := .preempted, preempts := l.preempts + 1 } else l) ∧
        field t.dies[d].weirBlk[5] 15 0 = satAt 65535 (field s.dies[d].weirBlk[5] 15 0 + 1) ∧ s.dieOnly t d ∧ s.sameBytes t) ∧
    (en.running = some q → (s.urgentEligible d e = false ∨ (en.boundary = false ∧ stalled = false)) →
      exec (.preemption d e) s = .next s) ∧
    (en.saved = some q → en.running = none → s.urgentEligible d e = false →
      ∃ t, exec (.preemptRestore d e) s = .next t ∧
        t.dies[d].engines[engineIdx e] = { en with running := some q, saved := none, boundary := false } ∧
        t.dies[d].queues[q].live = s.dies[d].queues[q].live.map (fun l =>
          if l.phase = .preempted then { l with phase := .running } else l) ∧ s.dieOnly t d ∧ s.sameBytes t))

/-- The first command of a queue leaves it when its execution has ended (R168, R174): without a record Q_HEAD moves past it and
nothing is written; with one the record's 32 bytes are written at the completion ring's tail, which advances (R181, R182); a
failed one halts the queue with its position and status (R185); one whose record finds no free slot waits (R181; assumption log 59).
-/
def Obligations.CommandsComplete : Prop :=
  ∀ (fn : Fn) (q : QIdx) (busy : Nat) (l : Live) (rest : List Live) (s : State), s.completes fn = true → s.memoriesOk →
    (s.queue fn q).live = l :: rest → l.phase = .ended → (s.queue fn q).state = 1 →
    (∀ d : Die, fn = .die d → s.dies[d].page.deferred = []) → (∀ d : Die, s.sw.toPf[d] = []) →
    let x := s.queue fn q
    let h := header l.bytes
    let a := x.cplBase + 32 * (x.cplTail.toNat % 2 ^ x.cplLog)
    (l.status = stOk → h.signalObj = 511 → h.checkpoint = false →
      (h.cpl = false → h.listEnd = false → ∀ ok, ∃ t, exec (.commandComplete fn q busy ok) s = .next t ∧
        (t.queue fn q).head = l.pos + 1 ∧ (t.queue fn q).live.map Live.pos = rest.map Live.pos ∧
        (t.queue fn q).cplTail = x.cplTail ∧ (t.queue fn q).state = 1 ∧ s.sameBytes t ∧ t.regs = s.regs) ∧
      ((h.cpl = true ∨ h.listEnd = true) → x.full = false → s.accessStatus fn false a 32 = stOk →
        (∀ i, i < 32 → ∃ y, s.routeFn fn false (a + i) = .ok y ∧ ∀ o, y ≠ .pfRegs o) →
        ∃ t, exec (.commandComplete fn q busy true) s = .next t ∧
          t.loadN fn false a 32 = s.recordBytes fn { l with location := 0 } x busy ∧ (t.queue fn q).cplTail = x.cplTail + 1 ∧
          (t.queue fn q).head = l.pos + 1 ∧ (t.queue fn q).live.map Live.pos = rest.map Live.pos ∧ t.regs = s.regs ∧
          s.sameBytesBut t (fun y => ∃ i, i < 32 ∧ s.routeFn fn false (a + i) = .ok y))) ∧
    ((h.cpl = true ∨ h.listEnd = true ∨ l.status ≠ stOk) → x.full = true → ∀ ok,
      exec (.commandComplete fn q busy ok) s = .next s) ∧
    (l.status ≠ stOk → l.status ≠ stStale → l.status ≠ stCancelled → x.full = false → s.accessStatus fn false a 32 = stOk →
      ∃ t, exec (.commandComplete fn q busy true) s = .next t ∧ (t.queue fn q).state = 2 ∧ (t.queue fn q).errPos = l.pos ∧
        (t.queue fn q).errStatus = l.status ∧ (t.queue fn q).head = l.pos + 1 ∧
        (∀ d : Die, fn = .die d → bitAt t.dies[d].cmdBlk[12] q.val = true))

/-- A wait whose limit has run out ends its command with WAIT_TIMEOUT (R175), an aged head is served one class higher (R197). A
signal raises an object to the larger value and never lowers it, at the die where it lives (R172, R212, R213); a host read of
SYNC_VAL_LO or CMD_RASTER_LO captures the whole value (R59, R215); a waiter armed on a value already reached fires at once (R216).
-/
def Obligations.WaitsSignalsAndWaiters : Prop :=
  (∀ (fn : Fn) (q : QIdx) (n : Nat) (s : State), timedOut fn (s.queue fn q).waitTimeout 0 true (s.queue fn q).live = some n →
    exec (.waitTimeout fn q) s = .next (s.modQueue fn q fun x =>
      { x with live := x.live.modify n fun l => { l with phase := .ended, status := 0x403 } })) ∧
  (∀ (d : Die) (q : QIdx) (n : Nat) (l : Live) (s : State), s.dies[d].queues[q].eligibleAt = some (n, l) →
    let age := field s.dies[d].weirBlk[0] 7 0
    (s.dies[d].queues[q].cls ≠ 0 → age ≠ 0 → age ≤ l.ageMarks → exec (.weirAgeing d q) s = .next (s.modQueue (.die d) q fun x =>
      { x with live := x.live.modify n fun l => { l with aged := true } })) ∧
    ((s.dies[d].queues[q].cls = 0 ∨ age = 0 ∨ l.ageMarks < age) → exec (.weirAgeing d q) s = .next s)) ∧
  (∀ (d : Die) (g sig : Nat) (rest : List (Nat × Nat)) (s : State), g < 64 → s.dies[d].sigOut = (g, sig) :: rest →
    (s.dies[homeOf g].power < 5 → ∃ t, exec (.globalSignal (.die d)) s = .next t ∧ t.dies[d].sigOut = rest ∧
      (t.homed g).toNat = max (s.homed g).toNat (signalTo (s.homed g) sig).toNat ∧ s.sameBytes t ∧ t.regs = s.regs) ∧
    (s.dies[homeOf g].power = 5 → exec (.globalSignal (.die d)) s = .next (s.modDie d fun x => { x with sigOut := rest }))) ∧
  (∀ (g : Fin 64) (d : Die) (s : State), s.dies[homeOf g.val].power < 5 → s.dies[d].power < 5 → s.dies[d].seen.wf 0 = true →
    (homeOf g.val = d ∨ s.dies[homeOf g.val].linkUp[linkTo (homeOf g.val) d] = true) →
    ∃ t, exec (.globalNotify g (.die d)) s = .next t ∧ SMap.get 0 t.dies[d].seen g.val = s.homed g.val ∧
      (∀ h, h ≠ g.val → SMap.get 0 t.dies[d].seen h = SMap.get 0 s.dies[d].seen h) ∧ s.dieOnly t d ∧ s.sameBytes t) ∧
  (∀ (d : Die) (obj : BitVec 9) (old v : DWord) (s : State), s.reachable (.die d) = true → s.ownObj d obj.toNat = some old →
    (old.toNat < v.toNat → ∃ t, exec (.hostSignal d obj v) s = .next t ∧ t.ownObj d obj.toNat = some v ∧ s.sameBytes t ∧
      t.regs = s.regs) ∧
    (v.toNat ≤ old.toNat → exec (.hostSignal d obj v) s = .next (s.modDie d fun x =>
      { x with sigLo := SMap.set 0 x.sigLo obj.toNat (v.setWidth 32) })) ∧
    (∃ t, exec (.syncValCapture d obj) s = .next t ∧ t.out.resp = .ok (leBytes 4 old.toNat) ∧
      t.dies[d] = { s.dies[d] with objCap := SMap.set 0 s.dies[d].objCap obj.toNat old })) ∧
  (∀ (d : Die) (s : State), s.reachable (.die d) = true →
    let c : DWord := if s.dies[d].rasValid then s.dieRaster d else 0
    ∃ t, exec (.cmdRasterCapture d) s = .next t ∧ t.out.resp = .ok (leBytes 4 c.toNat) ∧
      t.dies[d] = { s.dies[d] with rasCap := c, rasCapValid := s.dies[d].rasValid, rasCapGen := s.dies[d].rasGen } ∧
      t = { s with dies := t.dies, out := { s.out with resp := t.out.resp } }) ∧
  (∀ (d : Die) (w : Fin 32) (ctrl : Word) (v : DWord) (s : State), s.reachable (.die d) = true → bitAt ctrl 31 = true →
    s.ownObj d (field ctrl 8 0) = some v →
    let z := s.dies[d].waiters[w]
    ∃ t, exec (.waiterArm d w ctrl) s = .next t ∧ (∀ x : Fin 32, x ≠ w → t.dies[d].waiters[x] = s.dies[d].waiters[x]) ∧
      (z.value.toNat ≤ v.toNat → t.dies[d].waiters[w] =
        { obj := field ctrl 8 0, vector := field ctrl 19 9, fired := true, armed := false, value := z.value }) ∧
      (v.toNat < z.value.toNat → t.dies[d].waiters[w] =
        { obj := field ctrl 8 0, vector := field ctrl 19 9, fired := z.fired && !bitAt ctrl 30, armed := true, value := z.value }) ∧
      s.sameBytes t ∧ t.regs = s.regs)

/-! ### Rules stated whole (R76, R334, R433) -/

/-- R76: a read of a reserved register answers zero with OK; a write to one is ignored with OK, but RECOVERY in RECOVERY; a burst
or FIFO write of which any word would draw another status than OK writes no word. -/
def Obligations.ReservedRegistersAndAllOrNothing : Prop :=
  (∀ (s : State) (addr : BitVec 16) (data : Word) (crc : Byte), s.answers = true → s.portOk → addr.toNat < 512 →
    isReserved addr.toNat = true →
    (crc8 0 (requestBytes 0x0B addr []) = crc →
      ∃ t, exec (.read addr crc) s = .next t ∧ t.port.held = some [0#32] ∧
        t.port.miso = List.replicate 5 0 ++ responseBytes pOk (wordBytes [0#32]) crc) ∧
    (crc8 0 (requestBytes 0x02 addr (beBytes 4 data.toNat)) = crc →
      (s.fld R.MG_STATE 2 0 ≠ 1 → ∃ t, exec (.write addr data crc) s = .next t ∧ s.goodWrite t [] 8 crc) ∧
      (s.fld R.MG_STATE 2 0 = 1 → ∃ t, exec (.write addr data crc) s = .next t ∧ s.refusedFrame t pRecovery 8 [] crc))) ∧
  (∀ (s : State) (addr : BitVec 16) (n crc : Byte), s.answers = true → 1 ≤ n.toNat → n.toNat ≤ 64 → addr.toNat + n.toNat ≤ 512 →
    crc8 0 (requestBytes 0x0C addr [n]) = crc →
    ∃ t ws, exec (.burstRead addr n crc) s = .next t ∧ t.port.held = some ws ∧ ws.length = n.toNat ∧
      t.port.miso = List.replicate 6 0 ++ responseBytes pOk (wordBytes ws) crc ∧
      ∀ i, i < n.toNat → isReserved (addr.toNat + i) = true → ws[i]? = some 0#32) ∧
  (∀ (s : State) (addr : BitVec 16) (n : Byte) (data : List Word) (crc : Byte), s.answers = true → data.length = n.toNat →
    1 ≤ n.toNat → n.toNat ≤ 64 →
    (addr.toNat + n.toNat ≤ 512 → crc8 0 (requestBytes 0x0D addr (n :: wordBytes data)) = crc →
      s.writeStatus (burstWords addr.toNat 1 data) = pOk →
      ∃ t, exec (.burstWrite addr n data crc) s = .next t ∧
        t.port.queue = s.port.queue ++ (burstWords addr.toNat 1 data).filter fun w => takesEntry w.1) ∧
    (addr.toNat < 512 → crc8 0 (requestBytes 0x0F addr (n :: wordBytes data)) = crc → isReserved addr.toNat = true →
      s.writeStatus (data.map fun w => (addr.toNat, w)) = pOk →
      ∃ t, exec (.fifoWrite addr n data crc) s = .next t ∧ s.goodWrite t [] (5 + 4 * n.toNat) crc)) ∧
  (∀ (s : State) (addr : BitVec 16) (n : Byte) (data : List Word) (crc : Byte), s.answers = true → data.length = n.toNat →
    (512 < addr.toNat + n.toNat ∨ s.writeStatus (burstWords addr.toNat 1 data) ≠ pOk ∨
      (∃ w ∈ burstWords addr.toNat 1 data, s.writeStatus [w] ≠ pOk) →
      ∃ t st, exec (.burstWrite addr n data crc) s = .next t ∧ st ≠ pOk ∧ s.refusedFrame t st (5 + 4 * n.toNat) [] crc) ∧
    (512 ≤ addr.toNat ∨ s.writeStatus (data.map fun w => (addr.toNat, w)) ≠ pOk ∨
      (∃ w ∈ data, s.writeStatus [(addr.toNat, w)] ≠ pOk) →
      ∃ t st, exec (.fifoWrite addr n data crc) s = .next t ∧ st ≠ pOk ∧ s.refusedFrame t st (5 + 4 * n.toNat) [] crc))

/-- R433: por after a power-on reset, mrst after an MRST_N reset, lockstep or watchdog after a SAFE restart for that cause,
sag_reset at the release of the last supply reset (R102); a SAFE restart for a clock fault alone sets none of the five bits, and
SAF_CAUSE.clock is set. -/
def Obligations.ResetCausesAreRecorded : Prop :=
  (∀ (pairSel : Bool) (s : State), ∃ t, exec (.powerOnReset pairSel) s = .next t ∧ t.reg R.MG_RESET_CAUSE = 1) ∧
  (∀ (lowNs : Nat) (pairSel : Bool) (s : State), 10000 ≤ lowNs → (s.pwr.stopped = false ∨ s.pwr.smallHours = true) →
    ∃ t, exec (.mrstNReset lowNs pairSel) s = .next t ∧ t.reg R.MG_RESET_CAUSE = 2) ∧
  (∀ s : State, s.monitorRuns = true → s.bit R.SUP_STATUS 1 = true →
    ∃ t, exec .sagResetRelease s = .next t ∧
      (t.bit R.SUP_STATUS 1 = false → t.reg R.MG_RESET_CAUSE = 4) ∧
      (t.bit R.SUP_STATUS 1 = true → t.reg R.MG_RESET_CAUSE = s.reg R.MG_RESET_CAUSE)) ∧
  (∀ (lockstepOk clockOk : Bool) (s : State), s.saf.restart ≠ 0 → s.pwr.stopped = false →
    ∃ t, exec (.safeRestart lockstepOk clockOk) s = .next t ∧
      t.bit R.MG_RESET_CAUSE 4 = s.saf.restart.testBit 3 ∧ t.bit R.MG_RESET_CAUSE 3 = s.saf.restart.testBit 4 ∧
      (∀ i, i ≠ 3 → i ≠ 4 → t.bit R.MG_RESET_CAUSE i = false) ∧
      (s.saf.restart.testBit 5 = true → t.bit R.SAF_CAUSE 5 = true))

/-- R334: a write to PNL_BANDb that would give a used band lo >= hi, or a code in common with another used band, is ignored and
sets param_rejected; any other is taken, unless the configuration is locked. A used band covers the codes from lo to hi - 1. -/
def Obligations.BandWritesAreChecked : Prop :=
  (∀ (b : Nat) (val : Word) (s : State), s.prilRuns = true → s.bit R.CFG_STATUS 0 = false → b < 16 →
    let a := R.PNL_BAND0 + b
    let lo := field val 9 0
    let hi := field val 25 16
    let covers (c code : Nat) : Prop := s.bit (R.PNL_BAND0 + c) 31 = true ∧ s.fld (R.PNL_BAND0 + c) 9 0 ≤ code ∧
      code < s.fld (R.PNL_BAND0 + c) 25 16
    let bad := bitAt val 31 = true ∧ (hi ≤ lo ∨ ∃ c code, c < 16 ∧ c ≠ b ∧ covers c code ∧ lo ≤ code ∧ code < hi)
    ∃ t, exec (.registerWrite .mgmt a val) s = .next t ∧
      (bad → t.bit R.PNL_ALERT 8 = true ∧ s.sameRegs t [R.PNL_ALERT] ∧
        t = { s with regs := t.regs, pf := t.pf, freeCtr := s.freeCtr + 1 }) ∧
      (¬ bad → t.reg a = val &&& 0x83FF03FF#32 ∧ s.sameRegs t [a, R.CFG_STATUS] ∧
        t = { s with regs := t.regs, freeCtr := s.freeCtr + 1 })) ∧
  (∀ (b : Nat) (val : Word) (s : State), s.prilRuns = true → s.bit R.CFG_STATUS 0 = true → b < 16 →
    exec (.registerWrite .mgmt (R.PNL_BAND0 + b) val) s = .next { s with freeCtr := s.freeCtr + 1 }) ∧
  (∀ (s : State) (code : Nat),
    (∀ b, s.bandAt code = some b → b < 16 ∧ s.bit (R.PNL_BAND0 + b) 31 = true ∧ s.fld (R.PNL_BAND0 + b) 9 0 ≤ code ∧
      code < s.fld (R.PNL_BAND0 + b) 25 16) ∧
    (s.bandAt code = none → ∀ b, b < 16 → s.bit (R.PNL_BAND0 + b) 31 = true → code < s.fld (R.PNL_BAND0 + b) 9 0 ∨
      s.fld (R.PNL_BAND0 + b) 25 16 ≤ code))
end

