-- ==== Sys2Proof/Laws/Memory.lean ====
section
/-!
SUPPORT. Sparse stores and memories: a read after a write, that every write keeps the canonical form, what a run of bytes reads
after a run is written, and what one write of a byte by its target does to the rest of memory.
-/
namespace Sys2Proof.Machine

open Sys2Proof

variable {α : Type} [DecidableEq α] (d : α)

/-! ### Sparse stores -/

/-- A lower bound of the keys may be lowered. -/
theorem SMap.wfFrom_mono {lo lo' : Nat} {m : SMap α} (h : lo' ≤ lo) (hm : SMap.wfFrom d lo m = true) : SMap.wfFrom d lo' m = true := by
  cases m with
  | nil => rfl
  | cons p m =>
    obtain ⟨k, v⟩ := p
    simp only [SMap.wfFrom, Bool.and_eq_true, decide_eq_true_eq] at hm ⊢
    exact ⟨⟨h.trans hm.1.1, hm.1.2⟩, hm.2⟩

/-- A key below every listed one reads as the default. -/
theorem SMap.get_of_lt {lo a : Nat} {m : SMap α} (hm : SMap.wfFrom d lo m = true) (h : a < lo) : SMap.get d m a = d := by
  induction m generalizing lo with
  | nil => rfl
  | cons p m ih =>
    obtain ⟨k, v⟩ := p
    simp only [SMap.wfFrom, Bool.and_eq_true, decide_eq_true_eq] at hm
    have : a ≠ k := by omega
    simp only [SMap.get, this, if_false]
    exact ih hm.2 (by omega)

/-- A write keeps the canonical form, above a bound that the key respects. -/
theorem SMap.set_wfFrom {lo a : Nat} {m : SMap α} (v : α) (hm : SMap.wfFrom d lo m = true) (h : lo ≤ a) :
    SMap.wfFrom d lo (SMap.set d m a v) = true := by
  induction m generalizing lo with
  | nil =>
    unfold SMap.set
    split
    · rfl
    · simp [SMap.wfFrom, *]
  | cons p m ih =>
    obtain ⟨k, w⟩ := p
    simp only [SMap.wfFrom, Bool.and_eq_true, decide_eq_true_eq] at hm
    obtain ⟨⟨hk, hw⟩, hrest⟩ := hm
    unfold SMap.set
    split_ifs with h1 h2 h3 h4
    · simp [SMap.wfFrom, hk, hw, hrest]
    · simp only [SMap.wfFrom, Bool.and_eq_true, decide_eq_true_eq]
      exact ⟨⟨h, h2⟩, ⟨by omega, hw⟩, hrest⟩
    · exact SMap.wfFrom_mono d (by omega) hrest
    · subst h3
      simp only [SMap.wfFrom, Bool.and_eq_true, decide_eq_true_eq]
      exact ⟨⟨h, h4⟩, hrest⟩
    · simp only [SMap.wfFrom, Bool.and_eq_true, decide_eq_true_eq]
      exact ⟨⟨hk, hw⟩, ih hrest (by omega)⟩

/-- A write keeps the canonical form. -/
theorem SMap.set_wf {m : SMap α} (a : Nat) (v : α) (hm : SMap.wf d m = true) : SMap.wf d (SMap.set d m a v) = true :=
  SMap.set_wfFrom d v hm (Nat.zero_le a)

/-- A read of the key just written. -/
theorem SMap.get_set_same {lo a : Nat} {m : SMap α} (v : α) (hm : SMap.wfFrom d lo m = true) :
    SMap.get d (SMap.set d m a v) a = v := by
  induction m generalizing lo with
  | nil =>
    unfold SMap.set
    split
    · subst v; rfl
    · simp [SMap.get]
  | cons p m ih =>
    obtain ⟨k, w⟩ := p
    simp only [SMap.wfFrom, Bool.and_eq_true, decide_eq_true_eq] at hm
    unfold SMap.set
    split_ifs with h1 h2 h3 h4
    · have : a ≠ k := by omega
      simp only [SMap.get, this, if_false, h2]
      exact SMap.get_of_lt d hm.2 (by omega)
    · simp [SMap.get]
    · rw [h4]; exact SMap.get_of_lt d hm.2 (by omega)
    · simp [SMap.get]
    · have : a ≠ k := fun e => h3 e
      simp only [SMap.get, this, if_false]
      exact ih hm.2

/-- A read of another key. -/
theorem SMap.get_set_other {a b : Nat} (m : SMap α) (v : α) (h : b ≠ a) : SMap.get d (SMap.set d m a v) b = SMap.get d m b := by
  induction m with
  | nil =>
    unfold SMap.set
    split <;> simp [SMap.get, h]
  | cons p m ih =>
    obtain ⟨k, w⟩ := p
    unfold SMap.set
    split_ifs with h1 h2 h3 h4
    · rfl
    · simp [SMap.get, h]
    · subst h3; simp [SMap.get, h]
    · subst h3; simp [SMap.get, h]
    · simp only [SMap.get, ih]

/-! ### Memories -/

/-- The empty memory is in canonical form. -/
theorem Memory.wf_nil : Memory.wf [] = true := rfl

/-- A write of one byte keeps the canonical form. -/
theorem Memory.write_wf {m : Memory} (a : Nat) (b : Byte) (h : m.wf = true) : (m.write a b).wf = true := SMap.set_wf _ a b h

/-- A write of a run of bytes keeps the canonical form. -/
theorem Memory.writeN_wf {m : Memory} (a : Nat) (bs : List Byte) (h : m.wf = true) : (m.writeN a bs).wf = true := by
  induction bs generalizing m a with
  | nil => exact h
  | cons b bs ih => exact ih (a + 1) (Memory.write_wf a b h)

/-- The byte just written reads back. -/
theorem Memory.read_write_same {m : Memory} (a : Nat) (b : Byte) (h : m.wf = true) : (m.write a b).read a = b :=
  SMap.get_set_same _ b h

/-- Every other byte reads as before. -/
theorem Memory.read_write_other (m : Memory) {a a' : Nat} (b : Byte) (h : a' ≠ a) : (m.write a b).read a' = m.read a' :=
  SMap.get_set_other _ m b h

/-- A byte outside a written run reads as before. -/
theorem Memory.read_writeN_other (m : Memory) {a a' : Nat} (bs : List Byte) (h : a' < a ∨ a + bs.length ≤ a') :
    (m.writeN a bs).read a' = m.read a' := by
  induction bs generalizing m a with
  | nil => rfl
  | cons b bs ih =>
    simp only [List.length_cons] at h
    rw [Memory.writeN, ih _ (by omega), Memory.read_write_other _ _ (by omega)]

/-- A run that was written reads back. -/
theorem Memory.readN_writeN {m : Memory} (a : Nat) (bs : List Byte) (h : m.wf = true) :
    (m.writeN a bs).readN a bs.length = bs := by
  induction bs generalizing m a with
  | nil => rfl
  | cons b bs ih =>
    simp only [List.length_cons, Memory.readN, Memory.writeN]
    rw [Memory.read_writeN_other _ _ (by omega), Memory.read_write_same _ _ h, ih _ (Memory.write_wf _ _ h)]

/-- A run is as long as asked. -/
@[simp] theorem Memory.length_readN (m : Memory) (a n : Nat) : (m.readN a n).length = n := by
  induction n generalizing a with
  | zero => rfl
  | succ n ih => simp [Memory.readN, ih]

/-! ### One byte at its target -/

/-- A byte written at a target keeps every memory in canonical form. -/
theorem State.poke_memoriesOk {s : State} (t : Target) (b : Byte) (h : s.memoriesOk) : (s.poke t b).memoriesOk := by
  obtain ⟨h1, h2, h3, h4, h5⟩ := h
  cases t with
  | die d a =>
    unfold State.poke
    dsimp only
    split
    all_goals
      refine ⟨h1, h2, h3, h4, fun e => ⟨(h5 e).1, ?_, ?_⟩⟩
      all_goals
        by_cases he : d = e
        · subst he
          simp only [State.modDie, Vector.getElem_set_self, Fin.getElem_fin]
          first
            | exact Memory.write_wf _ _ (h5 d).2.1
            | exact Memory.write_wf _ _ (h5 d).2.2
            | exact (h5 d).2.1
            | exact (h5 d).2.2
        · have hv : d.val ≠ e.val := fun x => he (Fin.ext x)
          simp only [State.modDie, Fin.getElem_fin]
          rw [Vector.getElem_set_ne _ _ hv]
          first
            | exact (h5 e).2.1
            | exact (h5 e).2.2
  | host a => exact ⟨h1, h2, h3, Memory.write_wf _ _ h4, h5⟩
  | work o => exact ⟨h1, h2, Memory.write_wf _ _ h3, h4, h5⟩
  | pfRegs => exact ⟨h1, h2, h3, h4, h5⟩
  | twin d o =>
    refine ⟨h1, h2, h3, h4, fun e => ⟨?_, (h5 e).2⟩⟩
    by_cases he : d = e
    · subst he
      simp only [State.poke, Vector.getElem_set_self, Fin.getElem_fin]
      exact Memory.write_wf _ _ (h5 d).1
    · have hv : d.val ≠ e.val := fun x => he (Fin.ext x)
      simp only [State.poke, Fin.getElem_fin]
      rw [Vector.getElem_set_ne _ _ hv]
      exact (h5 e).1

/-- The byte just written at a target reads back; the PF registers take no byte. -/
theorem State.peek_poke_same {s : State} (t : Target) (b : Byte) (h : s.memoriesOk) (ht : ∀ o, t ≠ .pfRegs o) : (s.poke t b).peek t = b := by
  obtain ⟨_, _, h3, h4, h5⟩ := h
  cases t with
  | die d a =>
    by_cases ha : a < 0x80000000
    · simp only [State.poke, State.peek, State.modDie, ha, if_true, Vector.getElem_set_self, Fin.getElem_fin]
      exact Memory.read_write_same _ _ (h5 d).2.1
    · simp only [State.poke, State.peek, State.modDie, ha, if_false, Vector.getElem_set_self, Fin.getElem_fin]
      exact Memory.read_write_same _ _ (h5 d).2.2
  | host a => exact Memory.read_write_same _ _ h4
  | work o => exact Memory.read_write_same _ _ h3
  | pfRegs o => exact absurd rfl (ht o)
  | twin d o =>
    simp only [State.poke, State.peek, Vector.getElem_set_self, Fin.getElem_fin]
    exact Memory.read_write_same _ _ (h5 d).1

/-- A byte written at a target leaves every other target's byte. -/
theorem State.peek_poke_other (s : State) {t u : Target} (b : Byte) (h : u ≠ t) : (s.poke t b).peek u = s.peek u := by
  cases t with
  | die d a =>
    cases u with
    | die e c =>
      by_cases he : d = e
      · subst he
        have hc : c ≠ a := fun x => h (by rw [x])
        by_cases ha : a < 0x80000000 <;> by_cases hc' : c < 0x80000000 <;>
          simp only [State.poke, State.peek, State.modDie, ha, hc', if_true, if_false, Vector.getElem_set_self, Fin.getElem_fin,
            Memory.read_write_other _ _ hc]
      · have hv : d.val ≠ e.val := fun x => he (Fin.ext x)
        by_cases ha : a < 0x80000000 <;>
          simp only [State.poke, State.peek, State.modDie, ha, if_true, if_false, Fin.getElem_fin, Vector.getElem_set_ne _ _ hv]
    | _ => unfold State.poke; dsimp only; split <;> rfl
  | host a =>
    cases u with
    | host c => exact Memory.read_write_other _ _ (fun x => h (by rw [x]))
    | _ => rfl
  | work a =>
    cases u with
    | work c => exact Memory.read_write_other _ _ (fun x => h (by rw [x]))
    | _ => rfl
  | pfRegs => rfl
  | twin d a =>
    cases u with
    | twin e c =>
      by_cases he : d = e
      · subst he
        simp only [State.poke, State.peek, Vector.getElem_set_self, Fin.getElem_fin]
        exact Memory.read_write_other _ _ (fun x => h (by rw [x]))
      · have hv : d.val ≠ e.val := fun x => he (Fin.ext x)
        simp only [State.poke, State.peek, Fin.getElem_fin, Vector.getElem_set_ne _ _ hv]
    | _ => rfl

end Sys2Proof.Machine
end

