-- ==== Sys2Proof/Laws/Regs.lean ====
section
/-!
SUPPORT. What a field update of a word does to its bits and its other fields, and what a write of a management register leaves
of the others: later proofs cite these and never unfold a word.
-/
namespace Sys2Proof

/-- The bits of a word after a field is replaced. -/
theorem getLsbD_setField (w : Word) (hi lo v i : Nat) :
    (setField w hi lo v).getLsbD i =
      (decide (i < 32) && if lo ≤ i ∧ i < lo + (hi + 1 - lo) then v.testBit (i - lo) else w.getLsbD i) := by
  unfold setField
  simp only [BitVec.getLsbD_or, BitVec.getLsbD_and, BitVec.getLsbD_not, BitVec.getLsbD_ofNat,
    Nat.testBit_shiftLeft, Nat.testBit_two_pow_sub_one, Nat.testBit_mod_two_pow]
  by_cases h32 : i < 32
  · by_cases h : lo ≤ i
    · by_cases h' : i - lo < hi + 1 - lo
      · have : i < lo + (hi + 1 - lo) := by omega
        simp [h32, h, h', this]
      · have : ¬ i < lo + (hi + 1 - lo) := by omega
        simp [h32, h, h', this]
    · simp [h32, h]
  · simp [h32, BitVec.getLsbD_of_ge w i (by omega)]

/-- The bits of a field. -/
theorem testBit_field (w : Word) (hi lo i : Nat) :
    (field w hi lo).testBit i = (decide (i < hi + 1 - lo) && w.getLsbD (lo + i)) := by
  simp [field, Nat.testBit_mod_two_pow, Nat.testBit_shiftRight, BitVec.getLsbD]

/-- A field of at most the word's width reads back as what was put there, cut to its width. -/
theorem field_setField_same (w : Word) (hi lo v : Nat) (h : hi < 32) :
    field (setField w hi lo v) hi lo = v % 2 ^ (hi + 1 - lo) := by
  apply Nat.eq_of_testBit_eq
  intro i
  rw [testBit_field, getLsbD_setField, Nat.testBit_mod_two_pow]
  by_cases hi' : i < hi + 1 - lo
  · have h1 : lo + i < 32 := by omega
    have h2 : lo + i < lo + (hi + 1 - lo) := by omega
    simp [hi', h1]
  · simp [hi']

/-- Another field, which shares no bit with the one replaced, reads as before. -/
theorem field_setField_other (w : Word) (hi lo v hi' lo' : Nat) (h : hi' < lo ∨ hi < lo') :
    field (setField w hi lo v) hi' lo' = field w hi' lo' := by
  apply Nat.eq_of_testBit_eq
  intro i
  rw [testBit_field, testBit_field, getLsbD_setField]
  by_cases hi'' : i < hi' + 1 - lo'
  · have : ¬ (lo ≤ lo' + i ∧ lo' + i < lo + (hi + 1 - lo)) := by omega
    simp only [this, if_false]
    by_cases h32 : lo' + i < 32
    · simp [h32]
    · simp [BitVec.getLsbD_of_ge w _ (by omega : 32 ≤ lo' + i)]
  · simp [hi'']

/-- A bit outside a replaced field reads as before. -/
theorem bitAt_setField_other (w : Word) (hi lo v i : Nat) (h : i < lo ∨ hi < i) :
    bitAt (setField w hi lo v) i = bitAt w i := by
  unfold bitAt
  rw [getLsbD_setField]
  have : ¬ (lo ≤ i ∧ i < lo + (hi + 1 - lo)) := by omega
  simp only [this, if_false]
  by_cases h32 : i < 32
  · simp [h32]
  · simp [BitVec.getLsbD_of_ge w _ (by omega : 32 ≤ i)]

/-- The bits of a word after one bit is replaced. -/
theorem bitAt_setBit (w : Word) (i j : Nat) (b : Bool) (h : i < 32) :
    bitAt (setBit w i b) j = if j = i then b else bitAt w j := by
  unfold setBit
  by_cases hj : j = i
  · subst hj
    unfold bitAt
    rw [getLsbD_setField]
    cases b <;> simp [h]
  · rw [bitAt_setField_other _ _ _ _ _ (by omega)]
    simp [hj]

/-- A field that does not hold a replaced bit reads as before. -/
theorem field_setBit_other (w : Word) (i hi lo : Nat) (b : Bool) (h : hi < i ∨ i < lo) :
    field (setBit w i b) hi lo = field w hi lo :=
  field_setField_other w i i _ hi lo h

/-- A one-bit field is the bit. -/
theorem field_bit (w : Word) (i : Nat) : field w i i = b2n (bitAt w i) := by
  apply Nat.eq_of_testBit_eq
  intro j
  rw [testBit_field]
  cases h : bitAt w i <;> unfold bitAt at h <;> rcases j with _ | j <;> simp [b2n, h, Nat.testBit_succ]

theorem field_lt (w : Word) (hi lo : Nat) : field w hi lo < 2 ^ (hi + 1 - lo) :=
  Nat.mod_lt _ (Nat.two_pow_pos _)

namespace Machine

/-- A read of a management register after a write of one. -/
theorem reg_setReg (s : State) (a b : Nat) (w : Word) :
    (s.setReg a w).reg b = if b = a ∧ a < 512 then w else s.reg b := by
  unfold State.reg State.setReg
  simp only [Vector.getElem?_setIfInBounds]
  by_cases h : a = b
  · subst h
    by_cases h' : a < 512
    · simp [h']
    · simp [h']
  · simp [h, Ne.symm h]

theorem reg_setReg_same (s : State) (a : Nat) (w : Word) (h : a < 512) : (s.setReg a w).reg a = w := by
  simp [reg_setReg, h]

theorem reg_setReg_other (s : State) (a b : Nat) (w : Word) (h : b ≠ a) : (s.setReg a w).reg b = s.reg b := by
  simp [reg_setReg, h]

theorem reg_putBit_other (s : State) (a b i : Nat) (v : Bool) (h : b ≠ a) : (s.putBit a i v).reg b = s.reg b :=
  reg_setReg_other _ _ _ _ h

theorem reg_setFld_other (s : State) (a b hi lo v : Nat) (h : b ≠ a) : (s.setFld a hi lo v).reg b = s.reg b :=
  reg_setReg_other _ _ _ _ h

theorem bit_putBit (s : State) (a b i j : Nat) (v : Bool) (ha : a < 512) (hi : i < 32) :
    (s.putBit a i v).bit b j = if b = a ∧ j = i then v else s.bit b j := by
  unfold State.bit State.putBit
  rw [reg_setReg]
  by_cases h : b = a
  · subst h
    simp [ha, bitAt_setBit _ _ _ _ hi]
  · simp [h]

theorem fld_setFld_same (s : State) (a hi lo v : Nat) (ha : a < 512) (h : hi < 32) :
    (s.setFld a hi lo v).fld a hi lo = v % 2 ^ (hi + 1 - lo) := by
  unfold State.fld State.setFld
  rw [reg_setReg_same _ _ _ ha, field_setField_same _ _ _ _ h]

theorem fld_setFld_other (s : State) (a hi lo v b hi' lo' : Nat) (h : b ≠ a ∨ hi' < lo ∨ hi < lo') :
    (s.setFld a hi lo v).fld b hi' lo' = s.fld b hi' lo' := by
  unfold State.fld State.setFld
  rw [reg_setReg]
  by_cases hb : b = a
  · subst hb
    have h' : hi' < lo ∨ hi < lo' := by simpa using h
    split
    · exact field_setField_other _ _ _ _ _ _ h'
    · rfl
  · simp [hb]

theorem bit_setFld_other (s : State) (a hi lo v b i : Nat) (h : b ≠ a ∨ i < lo ∨ hi < i) :
    (s.setFld a hi lo v).bit b i = s.bit b i := by
  unfold State.bit State.setFld
  rw [reg_setReg]
  by_cases hb : b = a
  · subst hb
    have h' : i < lo ∨ hi < i := by simpa using h
    split
    · exact bitAt_setField_other _ _ _ _ _ h'
    · rfl
  · simp [hb]

theorem fld_putBit_other (s : State) (a i b hi lo : Nat) (v : Bool) (h : b ≠ a ∨ hi < i ∨ i < lo) :
    (s.putBit a i v).fld b hi lo = s.fld b hi lo :=
  fld_setFld_other s a i i _ b hi lo h

end Machine

end Sys2Proof
end

