-- ==== Sys2Proof/Laws/State.lean ====
section
/-!
SUPPORT. Each shared update of the state leaves every field but its own: one lemma per field per update. A proof about a
command cites these and never unfolds a record update.
-/
namespace Sys2Proof.Machine

open Sys2Proof

variable (s : State)

/-! ### setReg changes regs -/

@[simp] theorem State.setReg_pending (a : Nat) (w : Word) : (s.setReg a w).pending = s.pending := rfl
@[simp] theorem State.setReg_now (a : Nat) (w : Word) : (s.setReg a w).now = s.now := rfl
@[simp] theorem State.setReg_freeCtr (a : Nat) (w : Word) : (s.setReg a w).freeCtr = s.freeCtr := rfl
@[simp] theorem State.setReg_port (a : Nat) (w : Word) : (s.setReg a w).port = s.port := rfl
@[simp] theorem State.setReg_pins (a : Nat) (w : Word) : (s.setReg a w).pins = s.pins := rfl
@[simp] theorem State.setReg_ras (a : Nat) (w : Word) : (s.setReg a w).ras = s.ras := rfl
@[simp] theorem State.setReg_sup (a : Nat) (w : Word) : (s.setReg a w).sup = s.sup := rfl
@[simp] theorem State.setReg_pwr (a : Nat) (w : Word) : (s.setReg a w).pwr = s.pwr := rfl
@[simp] theorem State.setReg_thm (a : Nat) (w : Word) : (s.setReg a w).thm = s.thm := rfl
@[simp] theorem State.setReg_tm (a : Nat) (w : Word) : (s.setReg a w).tm = s.tm := rfl
@[simp] theorem State.setReg_saf (a : Nat) (w : Word) : (s.setReg a w).saf = s.saf := rfl
@[simp] theorem State.setReg_pair (a : Nat) (w : Word) : (s.setReg a w).pair = s.pair := rfl
@[simp] theorem State.setReg_pnl (a : Nat) (w : Word) : (s.setReg a w).pnl = s.pnl := rfl
@[simp] theorem State.setReg_hv (a : Nat) (w : Word) : (s.setReg a w).hv = s.hv := rfl
@[simp] theorem State.setReg_img (a : Nat) (w : Word) : (s.setReg a w).img = s.img := rfl
@[simp] theorem State.setReg_dies (a : Nat) (w : Word) : (s.setReg a w).dies = s.dies := rfl
@[simp] theorem State.setReg_pf (a : Nat) (w : Word) : (s.setReg a w).pf = s.pf := rfl
@[simp] theorem State.setReg_slot (a : Nat) (w : Word) : (s.setReg a w).slot = s.slot := rfl
@[simp] theorem State.setReg_out (a : Nat) (w : Word) : (s.setReg a w).out = s.out := rfl
@[simp] theorem State.setReg_ext (a : Nat) (w : Word) : (s.setReg a w).ext = s.ext := rfl
@[simp] theorem State.setReg_sw (a : Nat) (w : Word) : (s.setReg a w).sw = s.sw := rfl

/-! ### setFld changes regs -/

@[simp] theorem State.setFld_pending (a hi lo v : Nat) : (s.setFld a hi lo v).pending = s.pending := rfl
@[simp] theorem State.setFld_now (a hi lo v : Nat) : (s.setFld a hi lo v).now = s.now := rfl
@[simp] theorem State.setFld_freeCtr (a hi lo v : Nat) : (s.setFld a hi lo v).freeCtr = s.freeCtr := rfl
@[simp] theorem State.setFld_port (a hi lo v : Nat) : (s.setFld a hi lo v).port = s.port := rfl
@[simp] theorem State.setFld_pins (a hi lo v : Nat) : (s.setFld a hi lo v).pins = s.pins := rfl
@[simp] theorem State.setFld_ras (a hi lo v : Nat) : (s.setFld a hi lo v).ras = s.ras := rfl
@[simp] theorem State.setFld_sup (a hi lo v : Nat) : (s.setFld a hi lo v).sup = s.sup := rfl
@[simp] theorem State.setFld_pwr (a hi lo v : Nat) : (s.setFld a hi lo v).pwr = s.pwr := rfl
@[simp] theorem State.setFld_thm (a hi lo v : Nat) : (s.setFld a hi lo v).thm = s.thm := rfl
@[simp] theorem State.setFld_tm (a hi lo v : Nat) : (s.setFld a hi lo v).tm = s.tm := rfl
@[simp] theorem State.setFld_saf (a hi lo v : Nat) : (s.setFld a hi lo v).saf = s.saf := rfl
@[simp] theorem State.setFld_pair (a hi lo v : Nat) : (s.setFld a hi lo v).pair = s.pair := rfl
@[simp] theorem State.setFld_pnl (a hi lo v : Nat) : (s.setFld a hi lo v).pnl = s.pnl := rfl
@[simp] theorem State.setFld_hv (a hi lo v : Nat) : (s.setFld a hi lo v).hv = s.hv := rfl
@[simp] theorem State.setFld_img (a hi lo v : Nat) : (s.setFld a hi lo v).img = s.img := rfl
@[simp] theorem State.setFld_dies (a hi lo v : Nat) : (s.setFld a hi lo v).dies = s.dies := rfl
@[simp] theorem State.setFld_pf (a hi lo v : Nat) : (s.setFld a hi lo v).pf = s.pf := rfl
@[simp] theorem State.setFld_slot (a hi lo v : Nat) : (s.setFld a hi lo v).slot = s.slot := rfl
@[simp] theorem State.setFld_out (a hi lo v : Nat) : (s.setFld a hi lo v).out = s.out := rfl
@[simp] theorem State.setFld_ext (a hi lo v : Nat) : (s.setFld a hi lo v).ext = s.ext := rfl
@[simp] theorem State.setFld_sw (a hi lo v : Nat) : (s.setFld a hi lo v).sw = s.sw := rfl

/-! ### putBit changes regs -/

@[simp] theorem State.putBit_pending (a i : Nat) (b : Bool) : (s.putBit a i b).pending = s.pending := rfl
@[simp] theorem State.putBit_now (a i : Nat) (b : Bool) : (s.putBit a i b).now = s.now := rfl
@[simp] theorem State.putBit_freeCtr (a i : Nat) (b : Bool) : (s.putBit a i b).freeCtr = s.freeCtr := rfl
@[simp] theorem State.putBit_port (a i : Nat) (b : Bool) : (s.putBit a i b).port = s.port := rfl
@[simp] theorem State.putBit_pins (a i : Nat) (b : Bool) : (s.putBit a i b).pins = s.pins := rfl
@[simp] theorem State.putBit_ras (a i : Nat) (b : Bool) : (s.putBit a i b).ras = s.ras := rfl
@[simp] theorem State.putBit_sup (a i : Nat) (b : Bool) : (s.putBit a i b).sup = s.sup := rfl
@[simp] theorem State.putBit_pwr (a i : Nat) (b : Bool) : (s.putBit a i b).pwr = s.pwr := rfl
@[simp] theorem State.putBit_thm (a i : Nat) (b : Bool) : (s.putBit a i b).thm = s.thm := rfl
@[simp] theorem State.putBit_tm (a i : Nat) (b : Bool) : (s.putBit a i b).tm = s.tm := rfl
@[simp] theorem State.putBit_saf (a i : Nat) (b : Bool) : (s.putBit a i b).saf = s.saf := rfl
@[simp] theorem State.putBit_pair (a i : Nat) (b : Bool) : (s.putBit a i b).pair = s.pair := rfl
@[simp] theorem State.putBit_pnl (a i : Nat) (b : Bool) : (s.putBit a i b).pnl = s.pnl := rfl
@[simp] theorem State.putBit_hv (a i : Nat) (b : Bool) : (s.putBit a i b).hv = s.hv := rfl
@[simp] theorem State.putBit_img (a i : Nat) (b : Bool) : (s.putBit a i b).img = s.img := rfl
@[simp] theorem State.putBit_dies (a i : Nat) (b : Bool) : (s.putBit a i b).dies = s.dies := rfl
@[simp] theorem State.putBit_pf (a i : Nat) (b : Bool) : (s.putBit a i b).pf = s.pf := rfl
@[simp] theorem State.putBit_slot (a i : Nat) (b : Bool) : (s.putBit a i b).slot = s.slot := rfl
@[simp] theorem State.putBit_out (a i : Nat) (b : Bool) : (s.putBit a i b).out = s.out := rfl
@[simp] theorem State.putBit_ext (a i : Nat) (b : Bool) : (s.putBit a i b).ext = s.ext := rfl
@[simp] theorem State.putBit_sw (a i : Nat) (b : Bool) : (s.putBit a i b).sw = s.sw := rfl

/-! ### bumpSat changes regs -/

@[simp] theorem State.bumpSat_pending (a hi lo n : Nat) : (s.bumpSat a hi lo n).pending = s.pending := rfl
@[simp] theorem State.bumpSat_now (a hi lo n : Nat) : (s.bumpSat a hi lo n).now = s.now := rfl
@[simp] theorem State.bumpSat_freeCtr (a hi lo n : Nat) : (s.bumpSat a hi lo n).freeCtr = s.freeCtr := rfl
@[simp] theorem State.bumpSat_port (a hi lo n : Nat) : (s.bumpSat a hi lo n).port = s.port := rfl
@[simp] theorem State.bumpSat_pins (a hi lo n : Nat) : (s.bumpSat a hi lo n).pins = s.pins := rfl
@[simp] theorem State.bumpSat_ras (a hi lo n : Nat) : (s.bumpSat a hi lo n).ras = s.ras := rfl
@[simp] theorem State.bumpSat_sup (a hi lo n : Nat) : (s.bumpSat a hi lo n).sup = s.sup := rfl
@[simp] theorem State.bumpSat_pwr (a hi lo n : Nat) : (s.bumpSat a hi lo n).pwr = s.pwr := rfl
@[simp] theorem State.bumpSat_thm (a hi lo n : Nat) : (s.bumpSat a hi lo n).thm = s.thm := rfl
@[simp] theorem State.bumpSat_tm (a hi lo n : Nat) : (s.bumpSat a hi lo n).tm = s.tm := rfl
@[simp] theorem State.bumpSat_saf (a hi lo n : Nat) : (s.bumpSat a hi lo n).saf = s.saf := rfl
@[simp] theorem State.bumpSat_pair (a hi lo n : Nat) : (s.bumpSat a hi lo n).pair = s.pair := rfl
@[simp] theorem State.bumpSat_pnl (a hi lo n : Nat) : (s.bumpSat a hi lo n).pnl = s.pnl := rfl
@[simp] theorem State.bumpSat_hv (a hi lo n : Nat) : (s.bumpSat a hi lo n).hv = s.hv := rfl
@[simp] theorem State.bumpSat_img (a hi lo n : Nat) : (s.bumpSat a hi lo n).img = s.img := rfl
@[simp] theorem State.bumpSat_dies (a hi lo n : Nat) : (s.bumpSat a hi lo n).dies = s.dies := rfl
@[simp] theorem State.bumpSat_pf (a hi lo n : Nat) : (s.bumpSat a hi lo n).pf = s.pf := rfl
@[simp] theorem State.bumpSat_slot (a hi lo n : Nat) : (s.bumpSat a hi lo n).slot = s.slot := rfl
@[simp] theorem State.bumpSat_out (a hi lo n : Nat) : (s.bumpSat a hi lo n).out = s.out := rfl
@[simp] theorem State.bumpSat_ext (a hi lo n : Nat) : (s.bumpSat a hi lo n).ext = s.ext := rfl
@[simp] theorem State.bumpSat_sw (a hi lo n : Nat) : (s.bumpSat a hi lo n).sw = s.sw := rfl

/-! ### bumpWrap changes regs -/

@[simp] theorem State.bumpWrap_pending (a hi lo : Nat) : (s.bumpWrap a hi lo).pending = s.pending := rfl
@[simp] theorem State.bumpWrap_now (a hi lo : Nat) : (s.bumpWrap a hi lo).now = s.now := rfl
@[simp] theorem State.bumpWrap_freeCtr (a hi lo : Nat) : (s.bumpWrap a hi lo).freeCtr = s.freeCtr := rfl
@[simp] theorem State.bumpWrap_port (a hi lo : Nat) : (s.bumpWrap a hi lo).port = s.port := rfl
@[simp] theorem State.bumpWrap_pins (a hi lo : Nat) : (s.bumpWrap a hi lo).pins = s.pins := rfl
@[simp] theorem State.bumpWrap_ras (a hi lo : Nat) : (s.bumpWrap a hi lo).ras = s.ras := rfl
@[simp] theorem State.bumpWrap_sup (a hi lo : Nat) : (s.bumpWrap a hi lo).sup = s.sup := rfl
@[simp] theorem State.bumpWrap_pwr (a hi lo : Nat) : (s.bumpWrap a hi lo).pwr = s.pwr := rfl
@[simp] theorem State.bumpWrap_thm (a hi lo : Nat) : (s.bumpWrap a hi lo).thm = s.thm := rfl
@[simp] theorem State.bumpWrap_tm (a hi lo : Nat) : (s.bumpWrap a hi lo).tm = s.tm := rfl
@[simp] theorem State.bumpWrap_saf (a hi lo : Nat) : (s.bumpWrap a hi lo).saf = s.saf := rfl
@[simp] theorem State.bumpWrap_pair (a hi lo : Nat) : (s.bumpWrap a hi lo).pair = s.pair := rfl
@[simp] theorem State.bumpWrap_pnl (a hi lo : Nat) : (s.bumpWrap a hi lo).pnl = s.pnl := rfl
@[simp] theorem State.bumpWrap_hv (a hi lo : Nat) : (s.bumpWrap a hi lo).hv = s.hv := rfl
@[simp] theorem State.bumpWrap_img (a hi lo : Nat) : (s.bumpWrap a hi lo).img = s.img := rfl
@[simp] theorem State.bumpWrap_dies (a hi lo : Nat) : (s.bumpWrap a hi lo).dies = s.dies := rfl
@[simp] theorem State.bumpWrap_pf (a hi lo : Nat) : (s.bumpWrap a hi lo).pf = s.pf := rfl
@[simp] theorem State.bumpWrap_slot (a hi lo : Nat) : (s.bumpWrap a hi lo).slot = s.slot := rfl
@[simp] theorem State.bumpWrap_out (a hi lo : Nat) : (s.bumpWrap a hi lo).out = s.out := rfl
@[simp] theorem State.bumpWrap_ext (a hi lo : Nat) : (s.bumpWrap a hi lo).ext = s.ext := rfl
@[simp] theorem State.bumpWrap_sw (a hi lo : Nat) : (s.bumpWrap a hi lo).sw = s.sw := rfl

/-! ### raiseGen changes regs -/

@[simp] theorem State.raiseGen_pending : (s.raiseGen).pending = s.pending := rfl
@[simp] theorem State.raiseGen_now : (s.raiseGen).now = s.now := rfl
@[simp] theorem State.raiseGen_freeCtr : (s.raiseGen).freeCtr = s.freeCtr := rfl
@[simp] theorem State.raiseGen_port : (s.raiseGen).port = s.port := rfl
@[simp] theorem State.raiseGen_pins : (s.raiseGen).pins = s.pins := rfl
@[simp] theorem State.raiseGen_ras : (s.raiseGen).ras = s.ras := rfl
@[simp] theorem State.raiseGen_sup : (s.raiseGen).sup = s.sup := rfl
@[simp] theorem State.raiseGen_pwr : (s.raiseGen).pwr = s.pwr := rfl
@[simp] theorem State.raiseGen_thm : (s.raiseGen).thm = s.thm := rfl
@[simp] theorem State.raiseGen_tm : (s.raiseGen).tm = s.tm := rfl
@[simp] theorem State.raiseGen_saf : (s.raiseGen).saf = s.saf := rfl
@[simp] theorem State.raiseGen_pair : (s.raiseGen).pair = s.pair := rfl
@[simp] theorem State.raiseGen_pnl : (s.raiseGen).pnl = s.pnl := rfl
@[simp] theorem State.raiseGen_hv : (s.raiseGen).hv = s.hv := rfl
@[simp] theorem State.raiseGen_img : (s.raiseGen).img = s.img := rfl
@[simp] theorem State.raiseGen_dies : (s.raiseGen).dies = s.dies := rfl
@[simp] theorem State.raiseGen_pf : (s.raiseGen).pf = s.pf := rfl
@[simp] theorem State.raiseGen_slot : (s.raiseGen).slot = s.slot := rfl
@[simp] theorem State.raiseGen_out : (s.raiseGen).out = s.out := rfl
@[simp] theorem State.raiseGen_ext : (s.raiseGen).ext = s.ext := rfl
@[simp] theorem State.raiseGen_sw : (s.raiseGen).sw = s.sw := rfl

/-! ### at changes now -/

@[simp] theorem State.at_pending (t : Nat) : (s.at t).pending = s.pending := rfl
@[simp] theorem State.at_freeCtr (t : Nat) : (s.at t).freeCtr = s.freeCtr := rfl
@[simp] theorem State.at_regs (t : Nat) : (s.at t).regs = s.regs := rfl
@[simp] theorem State.at_port (t : Nat) : (s.at t).port = s.port := rfl
@[simp] theorem State.at_pins (t : Nat) : (s.at t).pins = s.pins := rfl
@[simp] theorem State.at_ras (t : Nat) : (s.at t).ras = s.ras := rfl
@[simp] theorem State.at_sup (t : Nat) : (s.at t).sup = s.sup := rfl
@[simp] theorem State.at_pwr (t : Nat) : (s.at t).pwr = s.pwr := rfl
@[simp] theorem State.at_thm (t : Nat) : (s.at t).thm = s.thm := rfl
@[simp] theorem State.at_tm (t : Nat) : (s.at t).tm = s.tm := rfl
@[simp] theorem State.at_saf (t : Nat) : (s.at t).saf = s.saf := rfl
@[simp] theorem State.at_pair (t : Nat) : (s.at t).pair = s.pair := rfl
@[simp] theorem State.at_pnl (t : Nat) : (s.at t).pnl = s.pnl := rfl
@[simp] theorem State.at_hv (t : Nat) : (s.at t).hv = s.hv := rfl
@[simp] theorem State.at_img (t : Nat) : (s.at t).img = s.img := rfl
@[simp] theorem State.at_dies (t : Nat) : (s.at t).dies = s.dies := rfl
@[simp] theorem State.at_pf (t : Nat) : (s.at t).pf = s.pf := rfl
@[simp] theorem State.at_slot (t : Nat) : (s.at t).slot = s.slot := rfl
@[simp] theorem State.at_out (t : Nat) : (s.at t).out = s.out := rfl
@[simp] theorem State.at_ext (t : Nat) : (s.at t).ext = s.ext := rfl
@[simp] theorem State.at_sw (t : Nat) : (s.at t).sw = s.sw := rfl

/-! ### modDie changes dies -/

@[simp] theorem State.modDie_pending (d : Die) (f : DieSt → DieSt) : (s.modDie d f).pending = s.pending := rfl
@[simp] theorem State.modDie_now (d : Die) (f : DieSt → DieSt) : (s.modDie d f).now = s.now := rfl
@[simp] theorem State.modDie_freeCtr (d : Die) (f : DieSt → DieSt) : (s.modDie d f).freeCtr = s.freeCtr := rfl
@[simp] theorem State.modDie_regs (d : Die) (f : DieSt → DieSt) : (s.modDie d f).regs = s.regs := rfl
@[simp] theorem State.modDie_port (d : Die) (f : DieSt → DieSt) : (s.modDie d f).port = s.port := rfl
@[simp] theorem State.modDie_pins (d : Die) (f : DieSt → DieSt) : (s.modDie d f).pins = s.pins := rfl
@[simp] theorem State.modDie_ras (d : Die) (f : DieSt → DieSt) : (s.modDie d f).ras = s.ras := rfl
@[simp] theorem State.modDie_sup (d : Die) (f : DieSt → DieSt) : (s.modDie d f).sup = s.sup := rfl
@[simp] theorem State.modDie_pwr (d : Die) (f : DieSt → DieSt) : (s.modDie d f).pwr = s.pwr := rfl
@[simp] theorem State.modDie_thm (d : Die) (f : DieSt → DieSt) : (s.modDie d f).thm = s.thm := rfl
@[simp] theorem State.modDie_tm (d : Die) (f : DieSt → DieSt) : (s.modDie d f).tm = s.tm := rfl
@[simp] theorem State.modDie_saf (d : Die) (f : DieSt → DieSt) : (s.modDie d f).saf = s.saf := rfl
@[simp] theorem State.modDie_pair (d : Die) (f : DieSt → DieSt) : (s.modDie d f).pair = s.pair := rfl
@[simp] theorem State.modDie_pnl (d : Die) (f : DieSt → DieSt) : (s.modDie d f).pnl = s.pnl := rfl
@[simp] theorem State.modDie_hv (d : Die) (f : DieSt → DieSt) : (s.modDie d f).hv = s.hv := rfl
@[simp] theorem State.modDie_img (d : Die) (f : DieSt → DieSt) : (s.modDie d f).img = s.img := rfl
@[simp] theorem State.modDie_pf (d : Die) (f : DieSt → DieSt) : (s.modDie d f).pf = s.pf := rfl
@[simp] theorem State.modDie_slot (d : Die) (f : DieSt → DieSt) : (s.modDie d f).slot = s.slot := rfl
@[simp] theorem State.modDie_out (d : Die) (f : DieSt → DieSt) : (s.modDie d f).out = s.out := rfl
@[simp] theorem State.modDie_ext (d : Die) (f : DieSt → DieSt) : (s.modDie d f).ext = s.ext := rfl
@[simp] theorem State.modDie_sw (d : Die) (f : DieSt → DieSt) : (s.modDie d f).sw = s.sw := rfl

/-! ### modRas changes ras -/

@[simp] theorem State.modRas_pending (f : Raster → Raster) : (s.modRas f).pending = s.pending := rfl
@[simp] theorem State.modRas_now (f : Raster → Raster) : (s.modRas f).now = s.now := rfl
@[simp] theorem State.modRas_freeCtr (f : Raster → Raster) : (s.modRas f).freeCtr = s.freeCtr := rfl
@[simp] theorem State.modRas_regs (f : Raster → Raster) : (s.modRas f).regs = s.regs := rfl
@[simp] theorem State.modRas_port (f : Raster → Raster) : (s.modRas f).port = s.port := rfl
@[simp] theorem State.modRas_pins (f : Raster → Raster) : (s.modRas f).pins = s.pins := rfl
@[simp] theorem State.modRas_sup (f : Raster → Raster) : (s.modRas f).sup = s.sup := rfl
@[simp] theorem State.modRas_pwr (f : Raster → Raster) : (s.modRas f).pwr = s.pwr := rfl
@[simp] theorem State.modRas_thm (f : Raster → Raster) : (s.modRas f).thm = s.thm := rfl
@[simp] theorem State.modRas_tm (f : Raster → Raster) : (s.modRas f).tm = s.tm := rfl
@[simp] theorem State.modRas_saf (f : Raster → Raster) : (s.modRas f).saf = s.saf := rfl
@[simp] theorem State.modRas_pair (f : Raster → Raster) : (s.modRas f).pair = s.pair := rfl
@[simp] theorem State.modRas_pnl (f : Raster → Raster) : (s.modRas f).pnl = s.pnl := rfl
@[simp] theorem State.modRas_hv (f : Raster → Raster) : (s.modRas f).hv = s.hv := rfl
@[simp] theorem State.modRas_img (f : Raster → Raster) : (s.modRas f).img = s.img := rfl
@[simp] theorem State.modRas_dies (f : Raster → Raster) : (s.modRas f).dies = s.dies := rfl
@[simp] theorem State.modRas_pf (f : Raster → Raster) : (s.modRas f).pf = s.pf := rfl
@[simp] theorem State.modRas_slot (f : Raster → Raster) : (s.modRas f).slot = s.slot := rfl
@[simp] theorem State.modRas_out (f : Raster → Raster) : (s.modRas f).out = s.out := rfl
@[simp] theorem State.modRas_ext (f : Raster → Raster) : (s.modRas f).ext = s.ext := rfl
@[simp] theorem State.modRas_sw (f : Raster → Raster) : (s.modRas f).sw = s.sw := rfl

/-! ### respond changes out -/

@[simp] theorem State.respond_pending (r : HostResp) : (s.respond r).pending = s.pending := rfl
@[simp] theorem State.respond_now (r : HostResp) : (s.respond r).now = s.now := rfl
@[simp] theorem State.respond_freeCtr (r : HostResp) : (s.respond r).freeCtr = s.freeCtr := rfl
@[simp] theorem State.respond_regs (r : HostResp) : (s.respond r).regs = s.regs := rfl
@[simp] theorem State.respond_port (r : HostResp) : (s.respond r).port = s.port := rfl
@[simp] theorem State.respond_pins (r : HostResp) : (s.respond r).pins = s.pins := rfl
@[simp] theorem State.respond_ras (r : HostResp) : (s.respond r).ras = s.ras := rfl
@[simp] theorem State.respond_sup (r : HostResp) : (s.respond r).sup = s.sup := rfl
@[simp] theorem State.respond_pwr (r : HostResp) : (s.respond r).pwr = s.pwr := rfl
@[simp] theorem State.respond_thm (r : HostResp) : (s.respond r).thm = s.thm := rfl
@[simp] theorem State.respond_tm (r : HostResp) : (s.respond r).tm = s.tm := rfl
@[simp] theorem State.respond_saf (r : HostResp) : (s.respond r).saf = s.saf := rfl
@[simp] theorem State.respond_pair (r : HostResp) : (s.respond r).pair = s.pair := rfl
@[simp] theorem State.respond_pnl (r : HostResp) : (s.respond r).pnl = s.pnl := rfl
@[simp] theorem State.respond_hv (r : HostResp) : (s.respond r).hv = s.hv := rfl
@[simp] theorem State.respond_img (r : HostResp) : (s.respond r).img = s.img := rfl
@[simp] theorem State.respond_dies (r : HostResp) : (s.respond r).dies = s.dies := rfl
@[simp] theorem State.respond_pf (r : HostResp) : (s.respond r).pf = s.pf := rfl
@[simp] theorem State.respond_slot (r : HostResp) : (s.respond r).slot = s.slot := rfl
@[simp] theorem State.respond_ext (r : HostResp) : (s.respond r).ext = s.ext := rfl
@[simp] theorem State.respond_sw (r : HostResp) : (s.respond r).sw = s.sw := rfl

/-! ### drive changes port -/

@[simp] theorem State.drive_pending (n : Nat) (r : List Byte) : (s.drive n r).pending = s.pending := rfl
@[simp] theorem State.drive_now (n : Nat) (r : List Byte) : (s.drive n r).now = s.now := rfl
@[simp] theorem State.drive_freeCtr (n : Nat) (r : List Byte) : (s.drive n r).freeCtr = s.freeCtr := rfl
@[simp] theorem State.drive_regs (n : Nat) (r : List Byte) : (s.drive n r).regs = s.regs := rfl
@[simp] theorem State.drive_pins (n : Nat) (r : List Byte) : (s.drive n r).pins = s.pins := rfl
@[simp] theorem State.drive_ras (n : Nat) (r : List Byte) : (s.drive n r).ras = s.ras := rfl
@[simp] theorem State.drive_sup (n : Nat) (r : List Byte) : (s.drive n r).sup = s.sup := rfl
@[simp] theorem State.drive_pwr (n : Nat) (r : List Byte) : (s.drive n r).pwr = s.pwr := rfl
@[simp] theorem State.drive_thm (n : Nat) (r : List Byte) : (s.drive n r).thm = s.thm := rfl
@[simp] theorem State.drive_tm (n : Nat) (r : List Byte) : (s.drive n r).tm = s.tm := rfl
@[simp] theorem State.drive_saf (n : Nat) (r : List Byte) : (s.drive n r).saf = s.saf := rfl
@[simp] theorem State.drive_pair (n : Nat) (r : List Byte) : (s.drive n r).pair = s.pair := rfl
@[simp] theorem State.drive_pnl (n : Nat) (r : List Byte) : (s.drive n r).pnl = s.pnl := rfl
@[simp] theorem State.drive_hv (n : Nat) (r : List Byte) : (s.drive n r).hv = s.hv := rfl
@[simp] theorem State.drive_img (n : Nat) (r : List Byte) : (s.drive n r).img = s.img := rfl
@[simp] theorem State.drive_dies (n : Nat) (r : List Byte) : (s.drive n r).dies = s.dies := rfl
@[simp] theorem State.drive_pf (n : Nat) (r : List Byte) : (s.drive n r).pf = s.pf := rfl
@[simp] theorem State.drive_slot (n : Nat) (r : List Byte) : (s.drive n r).slot = s.slot := rfl
@[simp] theorem State.drive_out (n : Nat) (r : List Byte) : (s.drive n r).out = s.out := rfl
@[simp] theorem State.drive_ext (n : Nat) (r : List Byte) : (s.drive n r).ext = s.ext := rfl
@[simp] theorem State.drive_sw (n : Nat) (r : List Byte) : (s.drive n r).sw = s.sw := rfl

/-! ### silent changes port -/

@[simp] theorem State.silent_pending (n : Nat) : (s.silent n).pending = s.pending := rfl
@[simp] theorem State.silent_now (n : Nat) : (s.silent n).now = s.now := rfl
@[simp] theorem State.silent_freeCtr (n : Nat) : (s.silent n).freeCtr = s.freeCtr := rfl
@[simp] theorem State.silent_regs (n : Nat) : (s.silent n).regs = s.regs := rfl
@[simp] theorem State.silent_pins (n : Nat) : (s.silent n).pins = s.pins := rfl
@[simp] theorem State.silent_ras (n : Nat) : (s.silent n).ras = s.ras := rfl
@[simp] theorem State.silent_sup (n : Nat) : (s.silent n).sup = s.sup := rfl
@[simp] theorem State.silent_pwr (n : Nat) : (s.silent n).pwr = s.pwr := rfl
@[simp] theorem State.silent_thm (n : Nat) : (s.silent n).thm = s.thm := rfl
@[simp] theorem State.silent_tm (n : Nat) : (s.silent n).tm = s.tm := rfl
@[simp] theorem State.silent_saf (n : Nat) : (s.silent n).saf = s.saf := rfl
@[simp] theorem State.silent_pair (n : Nat) : (s.silent n).pair = s.pair := rfl
@[simp] theorem State.silent_pnl (n : Nat) : (s.silent n).pnl = s.pnl := rfl
@[simp] theorem State.silent_hv (n : Nat) : (s.silent n).hv = s.hv := rfl
@[simp] theorem State.silent_img (n : Nat) : (s.silent n).img = s.img := rfl
@[simp] theorem State.silent_dies (n : Nat) : (s.silent n).dies = s.dies := rfl
@[simp] theorem State.silent_pf (n : Nat) : (s.silent n).pf = s.pf := rfl
@[simp] theorem State.silent_slot (n : Nat) : (s.silent n).slot = s.slot := rfl
@[simp] theorem State.silent_out (n : Nat) : (s.silent n).out = s.out := rfl
@[simp] theorem State.silent_ext (n : Nat) : (s.silent n).ext = s.ext := rfl
@[simp] theorem State.silent_sw (n : Nat) : (s.silent n).sw = s.sw := rfl

/-! ### setSlot changes pnl -/

@[simp] theorem State.setSlot_pending (n : Nat) (x : Slot) : (s.setSlot n x).pending = s.pending := rfl
@[simp] theorem State.setSlot_now (n : Nat) (x : Slot) : (s.setSlot n x).now = s.now := rfl
@[simp] theorem State.setSlot_freeCtr (n : Nat) (x : Slot) : (s.setSlot n x).freeCtr = s.freeCtr := rfl
@[simp] theorem State.setSlot_regs (n : Nat) (x : Slot) : (s.setSlot n x).regs = s.regs := rfl
@[simp] theorem State.setSlot_port (n : Nat) (x : Slot) : (s.setSlot n x).port = s.port := rfl
@[simp] theorem State.setSlot_pins (n : Nat) (x : Slot) : (s.setSlot n x).pins = s.pins := rfl
@[simp] theorem State.setSlot_ras (n : Nat) (x : Slot) : (s.setSlot n x).ras = s.ras := rfl
@[simp] theorem State.setSlot_sup (n : Nat) (x : Slot) : (s.setSlot n x).sup = s.sup := rfl
@[simp] theorem State.setSlot_pwr (n : Nat) (x : Slot) : (s.setSlot n x).pwr = s.pwr := rfl
@[simp] theorem State.setSlot_thm (n : Nat) (x : Slot) : (s.setSlot n x).thm = s.thm := rfl
@[simp] theorem State.setSlot_tm (n : Nat) (x : Slot) : (s.setSlot n x).tm = s.tm := rfl
@[simp] theorem State.setSlot_saf (n : Nat) (x : Slot) : (s.setSlot n x).saf = s.saf := rfl
@[simp] theorem State.setSlot_pair (n : Nat) (x : Slot) : (s.setSlot n x).pair = s.pair := rfl
@[simp] theorem State.setSlot_hv (n : Nat) (x : Slot) : (s.setSlot n x).hv = s.hv := rfl
@[simp] theorem State.setSlot_img (n : Nat) (x : Slot) : (s.setSlot n x).img = s.img := rfl
@[simp] theorem State.setSlot_dies (n : Nat) (x : Slot) : (s.setSlot n x).dies = s.dies := rfl
@[simp] theorem State.setSlot_pf (n : Nat) (x : Slot) : (s.setSlot n x).pf = s.pf := rfl
@[simp] theorem State.setSlot_slot (n : Nat) (x : Slot) : (s.setSlot n x).slot = s.slot := rfl
@[simp] theorem State.setSlot_out (n : Nat) (x : Slot) : (s.setSlot n x).out = s.out := rfl
@[simp] theorem State.setSlot_ext (n : Nat) (x : Slot) : (s.setSlot n x).ext = s.ext := rfl
@[simp] theorem State.setSlot_sw (n : Nat) (x : Slot) : (s.setSlot n x).sw = s.sw := rfl

/-! ### setChan changes thm -/

@[simp] theorem State.setChan_pending (c : Nat) (x : Chan) : (s.setChan c x).pending = s.pending := rfl
@[simp] theorem State.setChan_now (c : Nat) (x : Chan) : (s.setChan c x).now = s.now := rfl
@[simp] theorem State.setChan_freeCtr (c : Nat) (x : Chan) : (s.setChan c x).freeCtr = s.freeCtr := rfl
@[simp] theorem State.setChan_regs (c : Nat) (x : Chan) : (s.setChan c x).regs = s.regs := rfl
@[simp] theorem State.setChan_port (c : Nat) (x : Chan) : (s.setChan c x).port = s.port := rfl
@[simp] theorem State.setChan_pins (c : Nat) (x : Chan) : (s.setChan c x).pins = s.pins := rfl
@[simp] theorem State.setChan_ras (c : Nat) (x : Chan) : (s.setChan c x).ras = s.ras := rfl
@[simp] theorem State.setChan_sup (c : Nat) (x : Chan) : (s.setChan c x).sup = s.sup := rfl
@[simp] theorem State.setChan_pwr (c : Nat) (x : Chan) : (s.setChan c x).pwr = s.pwr := rfl
@[simp] theorem State.setChan_tm (c : Nat) (x : Chan) : (s.setChan c x).tm = s.tm := rfl
@[simp] theorem State.setChan_saf (c : Nat) (x : Chan) : (s.setChan c x).saf = s.saf := rfl
@[simp] theorem State.setChan_pair (c : Nat) (x : Chan) : (s.setChan c x).pair = s.pair := rfl
@[simp] theorem State.setChan_pnl (c : Nat) (x : Chan) : (s.setChan c x).pnl = s.pnl := rfl
@[simp] theorem State.setChan_hv (c : Nat) (x : Chan) : (s.setChan c x).hv = s.hv := rfl
@[simp] theorem State.setChan_img (c : Nat) (x : Chan) : (s.setChan c x).img = s.img := rfl
@[simp] theorem State.setChan_dies (c : Nat) (x : Chan) : (s.setChan c x).dies = s.dies := rfl
@[simp] theorem State.setChan_pf (c : Nat) (x : Chan) : (s.setChan c x).pf = s.pf := rfl
@[simp] theorem State.setChan_slot (c : Nat) (x : Chan) : (s.setChan c x).slot = s.slot := rfl
@[simp] theorem State.setChan_out (c : Nat) (x : Chan) : (s.setChan c x).out = s.out := rfl
@[simp] theorem State.setChan_ext (c : Nat) (x : Chan) : (s.setChan c x).ext = s.ext := rfl
@[simp] theorem State.setChan_sw (c : Nat) (x : Chan) : (s.setChan c x).sw = s.sw := rfl

/-! ### setGroup changes thm -/

@[simp] theorem State.setGroup_pending (g : Fin 5) (x : Group) : (s.setGroup g x).pending = s.pending := rfl
@[simp] theorem State.setGroup_now (g : Fin 5) (x : Group) : (s.setGroup g x).now = s.now := rfl
@[simp] theorem State.setGroup_freeCtr (g : Fin 5) (x : Group) : (s.setGroup g x).freeCtr = s.freeCtr := rfl
@[simp] theorem State.setGroup_regs (g : Fin 5) (x : Group) : (s.setGroup g x).regs = s.regs := rfl
@[simp] theorem State.setGroup_port (g : Fin 5) (x : Group) : (s.setGroup g x).port = s.port := rfl
@[simp] theorem State.setGroup_pins (g : Fin 5) (x : Group) : (s.setGroup g x).pins = s.pins := rfl
@[simp] theorem State.setGroup_ras (g : Fin 5) (x : Group) : (s.setGroup g x).ras = s.ras := rfl
@[simp] theorem State.setGroup_sup (g : Fin 5) (x : Group) : (s.setGroup g x).sup = s.sup := rfl
@[simp] theorem State.setGroup_pwr (g : Fin 5) (x : Group) : (s.setGroup g x).pwr = s.pwr := rfl
@[simp] theorem State.setGroup_tm (g : Fin 5) (x : Group) : (s.setGroup g x).tm = s.tm := rfl
@[simp] theorem State.setGroup_saf (g : Fin 5) (x : Group) : (s.setGroup g x).saf = s.saf := rfl
@[simp] theorem State.setGroup_pair (g : Fin 5) (x : Group) : (s.setGroup g x).pair = s.pair := rfl
@[simp] theorem State.setGroup_pnl (g : Fin 5) (x : Group) : (s.setGroup g x).pnl = s.pnl := rfl
@[simp] theorem State.setGroup_hv (g : Fin 5) (x : Group) : (s.setGroup g x).hv = s.hv := rfl
@[simp] theorem State.setGroup_img (g : Fin 5) (x : Group) : (s.setGroup g x).img = s.img := rfl
@[simp] theorem State.setGroup_dies (g : Fin 5) (x : Group) : (s.setGroup g x).dies = s.dies := rfl
@[simp] theorem State.setGroup_pf (g : Fin 5) (x : Group) : (s.setGroup g x).pf = s.pf := rfl
@[simp] theorem State.setGroup_slot (g : Fin 5) (x : Group) : (s.setGroup g x).slot = s.slot := rfl
@[simp] theorem State.setGroup_out (g : Fin 5) (x : Group) : (s.setGroup g x).out = s.out := rfl
@[simp] theorem State.setGroup_ext (g : Fin 5) (x : Group) : (s.setGroup g x).ext = s.ext := rfl
@[simp] theorem State.setGroup_sw (g : Fin 5) (x : Group) : (s.setGroup g x).sw = s.sw := rfl

/-! ### logEvent changes tm -/

@[simp] theorem State.logEvent_pending (k : Nat) (l : Word) (p : List Byte) : (s.logEvent k l p).pending = s.pending := rfl
@[simp] theorem State.logEvent_now (k : Nat) (l : Word) (p : List Byte) : (s.logEvent k l p).now = s.now := rfl
@[simp] theorem State.logEvent_freeCtr (k : Nat) (l : Word) (p : List Byte) : (s.logEvent k l p).freeCtr = s.freeCtr := rfl
@[simp] theorem State.logEvent_regs (k : Nat) (l : Word) (p : List Byte) : (s.logEvent k l p).regs = s.regs := rfl
@[simp] theorem State.logEvent_port (k : Nat) (l : Word) (p : List Byte) : (s.logEvent k l p).port = s.port := rfl
@[simp] theorem State.logEvent_pins (k : Nat) (l : Word) (p : List Byte) : (s.logEvent k l p).pins = s.pins := rfl
@[simp] theorem State.logEvent_ras (k : Nat) (l : Word) (p : List Byte) : (s.logEvent k l p).ras = s.ras := rfl
@[simp] theorem State.logEvent_sup (k : Nat) (l : Word) (p : List Byte) : (s.logEvent k l p).sup = s.sup := rfl
@[simp] theorem State.logEvent_pwr (k : Nat) (l : Word) (p : List Byte) : (s.logEvent k l p).pwr = s.pwr := rfl
@[simp] theorem State.logEvent_thm (k : Nat) (l : Word) (p : List Byte) : (s.logEvent k l p).thm = s.thm := rfl
@[simp] theorem State.logEvent_saf (k : Nat) (l : Word) (p : List Byte) : (s.logEvent k l p).saf = s.saf := rfl
@[simp] theorem State.logEvent_pair (k : Nat) (l : Word) (p : List Byte) : (s.logEvent k l p).pair = s.pair := rfl
@[simp] theorem State.logEvent_pnl (k : Nat) (l : Word) (p : List Byte) : (s.logEvent k l p).pnl = s.pnl := rfl
@[simp] theorem State.logEvent_hv (k : Nat) (l : Word) (p : List Byte) : (s.logEvent k l p).hv = s.hv := rfl
@[simp] theorem State.logEvent_img (k : Nat) (l : Word) (p : List Byte) : (s.logEvent k l p).img = s.img := rfl
@[simp] theorem State.logEvent_dies (k : Nat) (l : Word) (p : List Byte) : (s.logEvent k l p).dies = s.dies := rfl
@[simp] theorem State.logEvent_pf (k : Nat) (l : Word) (p : List Byte) : (s.logEvent k l p).pf = s.pf := rfl
@[simp] theorem State.logEvent_slot (k : Nat) (l : Word) (p : List Byte) : (s.logEvent k l p).slot = s.slot := rfl
@[simp] theorem State.logEvent_out (k : Nat) (l : Word) (p : List Byte) : (s.logEvent k l p).out = s.out := rfl
@[simp] theorem State.logEvent_ext (k : Nat) (l : Word) (p : List Byte) : (s.logEvent k l p).ext = s.ext := rfl
@[simp] theorem State.logEvent_sw (k : Nat) (l : Word) (p : List Byte) : (s.logEvent k l p).sw = s.sw := rfl

/-! ### bridgeSend changes dies -/

@[simp] theorem State.bridgeSend_pending (d : Die) (m : BridgeMsg) : (s.bridgeSend d m).pending = s.pending := rfl
@[simp] theorem State.bridgeSend_now (d : Die) (m : BridgeMsg) : (s.bridgeSend d m).now = s.now := rfl
@[simp] theorem State.bridgeSend_freeCtr (d : Die) (m : BridgeMsg) : (s.bridgeSend d m).freeCtr = s.freeCtr := rfl
@[simp] theorem State.bridgeSend_regs (d : Die) (m : BridgeMsg) : (s.bridgeSend d m).regs = s.regs := rfl
@[simp] theorem State.bridgeSend_port (d : Die) (m : BridgeMsg) : (s.bridgeSend d m).port = s.port := rfl
@[simp] theorem State.bridgeSend_pins (d : Die) (m : BridgeMsg) : (s.bridgeSend d m).pins = s.pins := rfl
@[simp] theorem State.bridgeSend_ras (d : Die) (m : BridgeMsg) : (s.bridgeSend d m).ras = s.ras := rfl
@[simp] theorem State.bridgeSend_sup (d : Die) (m : BridgeMsg) : (s.bridgeSend d m).sup = s.sup := rfl
@[simp] theorem State.bridgeSend_pwr (d : Die) (m : BridgeMsg) : (s.bridgeSend d m).pwr = s.pwr := rfl
@[simp] theorem State.bridgeSend_thm (d : Die) (m : BridgeMsg) : (s.bridgeSend d m).thm = s.thm := rfl
@[simp] theorem State.bridgeSend_tm (d : Die) (m : BridgeMsg) : (s.bridgeSend d m).tm = s.tm := rfl
@[simp] theorem State.bridgeSend_saf (d : Die) (m : BridgeMsg) : (s.bridgeSend d m).saf = s.saf := rfl
@[simp] theorem State.bridgeSend_pair (d : Die) (m : BridgeMsg) : (s.bridgeSend d m).pair = s.pair := rfl
@[simp] theorem State.bridgeSend_pnl (d : Die) (m : BridgeMsg) : (s.bridgeSend d m).pnl = s.pnl := rfl
@[simp] theorem State.bridgeSend_hv (d : Die) (m : BridgeMsg) : (s.bridgeSend d m).hv = s.hv := rfl
@[simp] theorem State.bridgeSend_img (d : Die) (m : BridgeMsg) : (s.bridgeSend d m).img = s.img := rfl
@[simp] theorem State.bridgeSend_pf (d : Die) (m : BridgeMsg) : (s.bridgeSend d m).pf = s.pf := rfl
@[simp] theorem State.bridgeSend_slot (d : Die) (m : BridgeMsg) : (s.bridgeSend d m).slot = s.slot := rfl
@[simp] theorem State.bridgeSend_out (d : Die) (m : BridgeMsg) : (s.bridgeSend d m).out = s.out := rfl
@[simp] theorem State.bridgeSend_ext (d : Die) (m : BridgeMsg) : (s.bridgeSend d m).ext = s.ext := rfl
@[simp] theorem State.bridgeSend_sw (d : Die) (m : BridgeMsg) : (s.bridgeSend d m).sw = s.sw := rfl

/-! ### bridgeEvent changes dies -/

@[simp] theorem State.bridgeEvent_pending (d : Die) (e : DieEvent) : (s.bridgeEvent d e).pending = s.pending := rfl
@[simp] theorem State.bridgeEvent_now (d : Die) (e : DieEvent) : (s.bridgeEvent d e).now = s.now := rfl
@[simp] theorem State.bridgeEvent_freeCtr (d : Die) (e : DieEvent) : (s.bridgeEvent d e).freeCtr = s.freeCtr := rfl
@[simp] theorem State.bridgeEvent_regs (d : Die) (e : DieEvent) : (s.bridgeEvent d e).regs = s.regs := rfl
@[simp] theorem State.bridgeEvent_port (d : Die) (e : DieEvent) : (s.bridgeEvent d e).port = s.port := rfl
@[simp] theorem State.bridgeEvent_pins (d : Die) (e : DieEvent) : (s.bridgeEvent d e).pins = s.pins := rfl
@[simp] theorem State.bridgeEvent_ras (d : Die) (e : DieEvent) : (s.bridgeEvent d e).ras = s.ras := rfl
@[simp] theorem State.bridgeEvent_sup (d : Die) (e : DieEvent) : (s.bridgeEvent d e).sup = s.sup := rfl
@[simp] theorem State.bridgeEvent_pwr (d : Die) (e : DieEvent) : (s.bridgeEvent d e).pwr = s.pwr := rfl
@[simp] theorem State.bridgeEvent_thm (d : Die) (e : DieEvent) : (s.bridgeEvent d e).thm = s.thm := rfl
@[simp] theorem State.bridgeEvent_tm (d : Die) (e : DieEvent) : (s.bridgeEvent d e).tm = s.tm := rfl
@[simp] theorem State.bridgeEvent_saf (d : Die) (e : DieEvent) : (s.bridgeEvent d e).saf = s.saf := rfl
@[simp] theorem State.bridgeEvent_pair (d : Die) (e : DieEvent) : (s.bridgeEvent d e).pair = s.pair := rfl
@[simp] theorem State.bridgeEvent_pnl (d : Die) (e : DieEvent) : (s.bridgeEvent d e).pnl = s.pnl := rfl
@[simp] theorem State.bridgeEvent_hv (d : Die) (e : DieEvent) : (s.bridgeEvent d e).hv = s.hv := rfl
@[simp] theorem State.bridgeEvent_img (d : Die) (e : DieEvent) : (s.bridgeEvent d e).img = s.img := rfl
@[simp] theorem State.bridgeEvent_pf (d : Die) (e : DieEvent) : (s.bridgeEvent d e).pf = s.pf := rfl
@[simp] theorem State.bridgeEvent_slot (d : Die) (e : DieEvent) : (s.bridgeEvent d e).slot = s.slot := rfl
@[simp] theorem State.bridgeEvent_out (d : Die) (e : DieEvent) : (s.bridgeEvent d e).out = s.out := rfl
@[simp] theorem State.bridgeEvent_ext (d : Die) (e : DieEvent) : (s.bridgeEvent d e).ext = s.ext := rfl
@[simp] theorem State.bridgeEvent_sw (d : Die) (e : DieEvent) : (s.bridgeEvent d e).sw = s.sw := rfl

/-! ### setPoison changes dies -/

@[simp] theorem State.setPoison_pending (d : Die) (u : Nat) (p : Option Bool) : (s.setPoison d u p).pending = s.pending := rfl
@[simp] theorem State.setPoison_now (d : Die) (u : Nat) (p : Option Bool) : (s.setPoison d u p).now = s.now := rfl
@[simp] theorem State.setPoison_freeCtr (d : Die) (u : Nat) (p : Option Bool) : (s.setPoison d u p).freeCtr = s.freeCtr := rfl
@[simp] theorem State.setPoison_regs (d : Die) (u : Nat) (p : Option Bool) : (s.setPoison d u p).regs = s.regs := rfl
@[simp] theorem State.setPoison_port (d : Die) (u : Nat) (p : Option Bool) : (s.setPoison d u p).port = s.port := rfl
@[simp] theorem State.setPoison_pins (d : Die) (u : Nat) (p : Option Bool) : (s.setPoison d u p).pins = s.pins := rfl
@[simp] theorem State.setPoison_ras (d : Die) (u : Nat) (p : Option Bool) : (s.setPoison d u p).ras = s.ras := rfl
@[simp] theorem State.setPoison_sup (d : Die) (u : Nat) (p : Option Bool) : (s.setPoison d u p).sup = s.sup := rfl
@[simp] theorem State.setPoison_pwr (d : Die) (u : Nat) (p : Option Bool) : (s.setPoison d u p).pwr = s.pwr := rfl
@[simp] theorem State.setPoison_thm (d : Die) (u : Nat) (p : Option Bool) : (s.setPoison d u p).thm = s.thm := rfl
@[simp] theorem State.setPoison_tm (d : Die) (u : Nat) (p : Option Bool) : (s.setPoison d u p).tm = s.tm := rfl
@[simp] theorem State.setPoison_saf (d : Die) (u : Nat) (p : Option Bool) : (s.setPoison d u p).saf = s.saf := rfl
@[simp] theorem State.setPoison_pair (d : Die) (u : Nat) (p : Option Bool) : (s.setPoison d u p).pair = s.pair := rfl
@[simp] theorem State.setPoison_pnl (d : Die) (u : Nat) (p : Option Bool) : (s.setPoison d u p).pnl = s.pnl := rfl
@[simp] theorem State.setPoison_hv (d : Die) (u : Nat) (p : Option Bool) : (s.setPoison d u p).hv = s.hv := rfl
@[simp] theorem State.setPoison_img (d : Die) (u : Nat) (p : Option Bool) : (s.setPoison d u p).img = s.img := rfl
@[simp] theorem State.setPoison_pf (d : Die) (u : Nat) (p : Option Bool) : (s.setPoison d u p).pf = s.pf := rfl
@[simp] theorem State.setPoison_slot (d : Die) (u : Nat) (p : Option Bool) : (s.setPoison d u p).slot = s.slot := rfl
@[simp] theorem State.setPoison_out (d : Die) (u : Nat) (p : Option Bool) : (s.setPoison d u p).out = s.out := rfl
@[simp] theorem State.setPoison_ext (d : Die) (u : Nat) (p : Option Bool) : (s.setPoison d u p).ext = s.ext := rfl
@[simp] theorem State.setPoison_sw (d : Die) (u : Nat) (p : Option Bool) : (s.setPoison d u p).sw = s.sw := rfl

/-! ### healUnits changes dies -/

@[simp] theorem State.healUnits_pending (e : Die) (o n : Nat) : (s.healUnits e o n).pending = s.pending := rfl
@[simp] theorem State.healUnits_now (e : Die) (o n : Nat) : (s.healUnits e o n).now = s.now := rfl
@[simp] theorem State.healUnits_freeCtr (e : Die) (o n : Nat) : (s.healUnits e o n).freeCtr = s.freeCtr := rfl
@[simp] theorem State.healUnits_regs (e : Die) (o n : Nat) : (s.healUnits e o n).regs = s.regs := rfl
@[simp] theorem State.healUnits_port (e : Die) (o n : Nat) : (s.healUnits e o n).port = s.port := rfl
@[simp] theorem State.healUnits_pins (e : Die) (o n : Nat) : (s.healUnits e o n).pins = s.pins := rfl
@[simp] theorem State.healUnits_ras (e : Die) (o n : Nat) : (s.healUnits e o n).ras = s.ras := rfl
@[simp] theorem State.healUnits_sup (e : Die) (o n : Nat) : (s.healUnits e o n).sup = s.sup := rfl
@[simp] theorem State.healUnits_pwr (e : Die) (o n : Nat) : (s.healUnits e o n).pwr = s.pwr := rfl
@[simp] theorem State.healUnits_thm (e : Die) (o n : Nat) : (s.healUnits e o n).thm = s.thm := rfl
@[simp] theorem State.healUnits_tm (e : Die) (o n : Nat) : (s.healUnits e o n).tm = s.tm := rfl
@[simp] theorem State.healUnits_saf (e : Die) (o n : Nat) : (s.healUnits e o n).saf = s.saf := rfl
@[simp] theorem State.healUnits_pair (e : Die) (o n : Nat) : (s.healUnits e o n).pair = s.pair := rfl
@[simp] theorem State.healUnits_pnl (e : Die) (o n : Nat) : (s.healUnits e o n).pnl = s.pnl := rfl
@[simp] theorem State.healUnits_hv (e : Die) (o n : Nat) : (s.healUnits e o n).hv = s.hv := rfl
@[simp] theorem State.healUnits_img (e : Die) (o n : Nat) : (s.healUnits e o n).img = s.img := rfl
@[simp] theorem State.healUnits_pf (e : Die) (o n : Nat) : (s.healUnits e o n).pf = s.pf := rfl
@[simp] theorem State.healUnits_slot (e : Die) (o n : Nat) : (s.healUnits e o n).slot = s.slot := rfl
@[simp] theorem State.healUnits_out (e : Die) (o n : Nat) : (s.healUnits e o n).out = s.out := rfl
@[simp] theorem State.healUnits_ext (e : Die) (o n : Nat) : (s.healUnits e o n).ext = s.ext := rfl
@[simp] theorem State.healUnits_sw (e : Die) (o n : Nat) : (s.healUnits e o n).sw = s.sw := rfl

/-! ### alert changes regs and pf -/

@[simp] theorem State.alert_pending (a i : Nat) : (s.alert a i).pending = s.pending := by unfold State.alert; split <;> rfl
@[simp] theorem State.alert_now (a i : Nat) : (s.alert a i).now = s.now := by unfold State.alert; split <;> rfl
@[simp] theorem State.alert_freeCtr (a i : Nat) : (s.alert a i).freeCtr = s.freeCtr := by unfold State.alert; split <;> rfl
@[simp] theorem State.alert_port (a i : Nat) : (s.alert a i).port = s.port := by unfold State.alert; split <;> rfl
@[simp] theorem State.alert_pins (a i : Nat) : (s.alert a i).pins = s.pins := by unfold State.alert; split <;> rfl
@[simp] theorem State.alert_ras (a i : Nat) : (s.alert a i).ras = s.ras := by unfold State.alert; split <;> rfl
@[simp] theorem State.alert_sup (a i : Nat) : (s.alert a i).sup = s.sup := by unfold State.alert; split <;> rfl
@[simp] theorem State.alert_pwr (a i : Nat) : (s.alert a i).pwr = s.pwr := by unfold State.alert; split <;> rfl
@[simp] theorem State.alert_thm (a i : Nat) : (s.alert a i).thm = s.thm := by unfold State.alert; split <;> rfl
@[simp] theorem State.alert_tm (a i : Nat) : (s.alert a i).tm = s.tm := by unfold State.alert; split <;> rfl
@[simp] theorem State.alert_saf (a i : Nat) : (s.alert a i).saf = s.saf := by unfold State.alert; split <;> rfl
@[simp] theorem State.alert_pair (a i : Nat) : (s.alert a i).pair = s.pair := by unfold State.alert; split <;> rfl
@[simp] theorem State.alert_pnl (a i : Nat) : (s.alert a i).pnl = s.pnl := by unfold State.alert; split <;> rfl
@[simp] theorem State.alert_hv (a i : Nat) : (s.alert a i).hv = s.hv := by unfold State.alert; split <;> rfl
@[simp] theorem State.alert_img (a i : Nat) : (s.alert a i).img = s.img := by unfold State.alert; split <;> rfl
@[simp] theorem State.alert_dies (a i : Nat) : (s.alert a i).dies = s.dies := by unfold State.alert; split <;> rfl
@[simp] theorem State.alert_slot (a i : Nat) : (s.alert a i).slot = s.slot := by unfold State.alert; split <;> rfl
@[simp] theorem State.alert_out (a i : Nat) : (s.alert a i).out = s.out := by unfold State.alert; split <;> rfl
@[simp] theorem State.alert_ext (a i : Nat) : (s.alert a i).ext = s.ext := by unfold State.alert; split <;> rfl
@[simp] theorem State.alert_sw (a i : Nat) : (s.alert a i).sw = s.sw := by unfold State.alert; split <;> rfl

/-! ### modQueue changes dies and pf -/

@[simp] theorem State.modQueue_pending (fn : Fn) (q : QIdx) (f : Queue → Queue) : (s.modQueue fn q f).pending = s.pending := by unfold State.modQueue; split <;> rfl
@[simp] theorem State.modQueue_now (fn : Fn) (q : QIdx) (f : Queue → Queue) : (s.modQueue fn q f).now = s.now := by unfold State.modQueue; split <;> rfl
@[simp] theorem State.modQueue_freeCtr (fn : Fn) (q : QIdx) (f : Queue → Queue) : (s.modQueue fn q f).freeCtr = s.freeCtr := by unfold State.modQueue; split <;> rfl
@[simp] theorem State.modQueue_regs (fn : Fn) (q : QIdx) (f : Queue → Queue) : (s.modQueue fn q f).regs = s.regs := by unfold State.modQueue; split <;> rfl
@[simp] theorem State.modQueue_port (fn : Fn) (q : QIdx) (f : Queue → Queue) : (s.modQueue fn q f).port = s.port := by unfold State.modQueue; split <;> rfl
@[simp] theorem State.modQueue_pins (fn : Fn) (q : QIdx) (f : Queue → Queue) : (s.modQueue fn q f).pins = s.pins := by unfold State.modQueue; split <;> rfl
@[simp] theorem State.modQueue_ras (fn : Fn) (q : QIdx) (f : Queue → Queue) : (s.modQueue fn q f).ras = s.ras := by unfold State.modQueue; split <;> rfl
@[simp] theorem State.modQueue_sup (fn : Fn) (q : QIdx) (f : Queue → Queue) : (s.modQueue fn q f).sup = s.sup := by unfold State.modQueue; split <;> rfl
@[simp] theorem State.modQueue_pwr (fn : Fn) (q : QIdx) (f : Queue → Queue) : (s.modQueue fn q f).pwr = s.pwr := by unfold State.modQueue; split <;> rfl
@[simp] theorem State.modQueue_thm (fn : Fn) (q : QIdx) (f : Queue → Queue) : (s.modQueue fn q f).thm = s.thm := by unfold State.modQueue; split <;> rfl
@[simp] theorem State.modQueue_tm (fn : Fn) (q : QIdx) (f : Queue → Queue) : (s.modQueue fn q f).tm = s.tm := by unfold State.modQueue; split <;> rfl
@[simp] theorem State.modQueue_saf (fn : Fn) (q : QIdx) (f : Queue → Queue) : (s.modQueue fn q f).saf = s.saf := by unfold State.modQueue; split <;> rfl
@[simp] theorem State.modQueue_pair (fn : Fn) (q : QIdx) (f : Queue → Queue) : (s.modQueue fn q f).pair = s.pair := by unfold State.modQueue; split <;> rfl
@[simp] theorem State.modQueue_pnl (fn : Fn) (q : QIdx) (f : Queue → Queue) : (s.modQueue fn q f).pnl = s.pnl := by unfold State.modQueue; split <;> rfl
@[simp] theorem State.modQueue_hv (fn : Fn) (q : QIdx) (f : Queue → Queue) : (s.modQueue fn q f).hv = s.hv := by unfold State.modQueue; split <;> rfl
@[simp] theorem State.modQueue_img (fn : Fn) (q : QIdx) (f : Queue → Queue) : (s.modQueue fn q f).img = s.img := by unfold State.modQueue; split <;> rfl
@[simp] theorem State.modQueue_slot (fn : Fn) (q : QIdx) (f : Queue → Queue) : (s.modQueue fn q f).slot = s.slot := by unfold State.modQueue; split <;> rfl
@[simp] theorem State.modQueue_out (fn : Fn) (q : QIdx) (f : Queue → Queue) : (s.modQueue fn q f).out = s.out := by unfold State.modQueue; split <;> rfl
@[simp] theorem State.modQueue_ext (fn : Fn) (q : QIdx) (f : Queue → Queue) : (s.modQueue fn q f).ext = s.ext := by unfold State.modQueue; split <;> rfl
@[simp] theorem State.modQueue_sw (fn : Fn) (q : QIdx) (f : Queue → Queue) : (s.modQueue fn q f).sw = s.sw := by unfold State.modQueue; split <;> rfl

/-! ### postPf changes sw -/

@[simp] theorem State.postPf_pending (d : Die) (o : Nat) (bs : List Byte) : (s.postPf d o bs).pending = s.pending := rfl
@[simp] theorem State.postPf_now (d : Die) (o : Nat) (bs : List Byte) : (s.postPf d o bs).now = s.now := rfl
@[simp] theorem State.postPf_freeCtr (d : Die) (o : Nat) (bs : List Byte) : (s.postPf d o bs).freeCtr = s.freeCtr := rfl
@[simp] theorem State.postPf_regs (d : Die) (o : Nat) (bs : List Byte) : (s.postPf d o bs).regs = s.regs := rfl
@[simp] theorem State.postPf_port (d : Die) (o : Nat) (bs : List Byte) : (s.postPf d o bs).port = s.port := rfl
@[simp] theorem State.postPf_pins (d : Die) (o : Nat) (bs : List Byte) : (s.postPf d o bs).pins = s.pins := rfl
@[simp] theorem State.postPf_ras (d : Die) (o : Nat) (bs : List Byte) : (s.postPf d o bs).ras = s.ras := rfl
@[simp] theorem State.postPf_sup (d : Die) (o : Nat) (bs : List Byte) : (s.postPf d o bs).sup = s.sup := rfl
@[simp] theorem State.postPf_pwr (d : Die) (o : Nat) (bs : List Byte) : (s.postPf d o bs).pwr = s.pwr := rfl
@[simp] theorem State.postPf_thm (d : Die) (o : Nat) (bs : List Byte) : (s.postPf d o bs).thm = s.thm := rfl
@[simp] theorem State.postPf_tm (d : Die) (o : Nat) (bs : List Byte) : (s.postPf d o bs).tm = s.tm := rfl
@[simp] theorem State.postPf_saf (d : Die) (o : Nat) (bs : List Byte) : (s.postPf d o bs).saf = s.saf := rfl
@[simp] theorem State.postPf_pair (d : Die) (o : Nat) (bs : List Byte) : (s.postPf d o bs).pair = s.pair := rfl
@[simp] theorem State.postPf_pnl (d : Die) (o : Nat) (bs : List Byte) : (s.postPf d o bs).pnl = s.pnl := rfl
@[simp] theorem State.postPf_hv (d : Die) (o : Nat) (bs : List Byte) : (s.postPf d o bs).hv = s.hv := rfl
@[simp] theorem State.postPf_img (d : Die) (o : Nat) (bs : List Byte) : (s.postPf d o bs).img = s.img := rfl
@[simp] theorem State.postPf_dies (d : Die) (o : Nat) (bs : List Byte) : (s.postPf d o bs).dies = s.dies := rfl
@[simp] theorem State.postPf_pf (d : Die) (o : Nat) (bs : List Byte) : (s.postPf d o bs).pf = s.pf := rfl
@[simp] theorem State.postPf_slot (d : Die) (o : Nat) (bs : List Byte) : (s.postPf d o bs).slot = s.slot := rfl
@[simp] theorem State.postPf_out (d : Die) (o : Nat) (bs : List Byte) : (s.postPf d o bs).out = s.out := rfl
@[simp] theorem State.postPf_ext (d : Die) (o : Nat) (bs : List Byte) : (s.postPf d o bs).ext = s.ext := rfl

/-! ### postUp changes sw and draws at most one free value -/

@[simp] theorem State.postUp_pending (fn : Fn) (tw : Bool) (a n : Nat) (data : Bool) (bad : Nat → Bool) :
    (s.postUp fn tw a n data bad).pending = s.pending := by unfold State.postUp; split <;> rfl
@[simp] theorem State.postUp_now (fn : Fn) (tw : Bool) (a n : Nat) (data : Bool) (bad : Nat → Bool) :
    (s.postUp fn tw a n data bad).now = s.now := by unfold State.postUp; split <;> rfl
@[simp] theorem State.postUp_regs (fn : Fn) (tw : Bool) (a n : Nat) (data : Bool) (bad : Nat → Bool) :
    (s.postUp fn tw a n data bad).regs = s.regs := by unfold State.postUp; split <;> rfl
@[simp] theorem State.postUp_port (fn : Fn) (tw : Bool) (a n : Nat) (data : Bool) (bad : Nat → Bool) :
    (s.postUp fn tw a n data bad).port = s.port := by unfold State.postUp; split <;> rfl
@[simp] theorem State.postUp_pins (fn : Fn) (tw : Bool) (a n : Nat) (data : Bool) (bad : Nat → Bool) :
    (s.postUp fn tw a n data bad).pins = s.pins := by unfold State.postUp; split <;> rfl
@[simp] theorem State.postUp_ras (fn : Fn) (tw : Bool) (a n : Nat) (data : Bool) (bad : Nat → Bool) :
    (s.postUp fn tw a n data bad).ras = s.ras := by unfold State.postUp; split <;> rfl
@[simp] theorem State.postUp_sup (fn : Fn) (tw : Bool) (a n : Nat) (data : Bool) (bad : Nat → Bool) :
    (s.postUp fn tw a n data bad).sup = s.sup := by unfold State.postUp; split <;> rfl
@[simp] theorem State.postUp_pwr (fn : Fn) (tw : Bool) (a n : Nat) (data : Bool) (bad : Nat → Bool) :
    (s.postUp fn tw a n data bad).pwr = s.pwr := by unfold State.postUp; split <;> rfl
@[simp] theorem State.postUp_thm (fn : Fn) (tw : Bool) (a n : Nat) (data : Bool) (bad : Nat → Bool) :
    (s.postUp fn tw a n data bad).thm = s.thm := by unfold State.postUp; split <;> rfl
@[simp] theorem State.postUp_tm (fn : Fn) (tw : Bool) (a n : Nat) (data : Bool) (bad : Nat → Bool) :
    (s.postUp fn tw a n data bad).tm = s.tm := by unfold State.postUp; split <;> rfl
@[simp] theorem State.postUp_saf (fn : Fn) (tw : Bool) (a n : Nat) (data : Bool) (bad : Nat → Bool) :
    (s.postUp fn tw a n data bad).saf = s.saf := by unfold State.postUp; split <;> rfl
@[simp] theorem State.postUp_pair (fn : Fn) (tw : Bool) (a n : Nat) (data : Bool) (bad : Nat → Bool) :
    (s.postUp fn tw a n data bad).pair = s.pair := by unfold State.postUp; split <;> rfl
@[simp] theorem State.postUp_pnl (fn : Fn) (tw : Bool) (a n : Nat) (data : Bool) (bad : Nat → Bool) :
    (s.postUp fn tw a n data bad).pnl = s.pnl := by unfold State.postUp; split <;> rfl
@[simp] theorem State.postUp_hv (fn : Fn) (tw : Bool) (a n : Nat) (data : Bool) (bad : Nat → Bool) :
    (s.postUp fn tw a n data bad).hv = s.hv := by unfold State.postUp; split <;> rfl
@[simp] theorem State.postUp_img (fn : Fn) (tw : Bool) (a n : Nat) (data : Bool) (bad : Nat → Bool) :
    (s.postUp fn tw a n data bad).img = s.img := by unfold State.postUp; split <;> rfl
@[simp] theorem State.postUp_dies (fn : Fn) (tw : Bool) (a n : Nat) (data : Bool) (bad : Nat → Bool) :
    (s.postUp fn tw a n data bad).dies = s.dies := by unfold State.postUp; split <;> rfl
@[simp] theorem State.postUp_pf (fn : Fn) (tw : Bool) (a n : Nat) (data : Bool) (bad : Nat → Bool) :
    (s.postUp fn tw a n data bad).pf = s.pf := by unfold State.postUp; split <;> rfl
@[simp] theorem State.postUp_slot (fn : Fn) (tw : Bool) (a n : Nat) (data : Bool) (bad : Nat → Bool) :
    (s.postUp fn tw a n data bad).slot = s.slot := by unfold State.postUp; split <;> rfl
@[simp] theorem State.postUp_out (fn : Fn) (tw : Bool) (a n : Nat) (data : Bool) (bad : Nat → Bool) :
    (s.postUp fn tw a n data bad).out = s.out := by unfold State.postUp; split <;> rfl
@[simp] theorem State.postUp_ext (fn : Fn) (tw : Bool) (a n : Nat) (data : Bool) (bad : Nat → Bool) :
    (s.postUp fn tw a n data bad).ext = s.ext := by unfold State.postUp; split <;> rfl

/-! ### Values of the updated fields -/

@[simp] theorem State.at_now_eq (t : Nat) : (s.at t).now = max s.now t := rfl
@[simp] theorem State.drive_miso (n : Nat) (r : List Byte) :
    (s.drive n r).port.miso = List.replicate (n + 1) 0 ++ r := rfl
@[simp] theorem State.drive_queue (n : Nat) (r : List Byte) : (s.drive n r).port.queue = s.port.queue := rfl
@[simp] theorem State.drive_held (n : Nat) (r : List Byte) : (s.drive n r).port.held = s.port.held := rfl
@[simp] theorem State.silent_queue (n : Nat) : (s.silent n).port.queue = s.port.queue := rfl
@[simp] theorem State.silent_held (n : Nat) : (s.silent n).port.held = s.port.held := rfl
@[simp] theorem State.modRas_ras (f : Raster → Raster) : (s.modRas f).ras = f s.ras := rfl
@[simp] theorem State.respond_resp (r : HostResp) : (s.respond r).out.resp = r := rfl
@[simp] theorem State.respond_msix (r : HostResp) : (s.respond r).out.msix = s.out.msix := rfl

/-- The die changed. -/
@[simp] theorem State.modDie_dies_same (d : Die) (f : DieSt → DieSt) :
    (s.modDie d f).dies[d.val] = f s.dies[d.val] := by
  simp [State.modDie]

/-- Every other die. -/
theorem State.modDie_dies_other (d e : Die) (f : DieSt → DieSt) (h : e ≠ d) :
    (s.modDie d f).dies[e.val] = s.dies[e.val] := by
  have h' : d.val ≠ e.val := fun h' => h (Fin.ext h'.symm)
  simp [State.modDie, Vector.getElem_set_ne _ _ h']

/-- The queue changed. -/
theorem State.modQueue_queue (fn : Fn) (q : QIdx) (f : Queue → Queue) :
    (s.modQueue fn q f).queue fn q = f (s.queue fn q) := by
  cases fn <;> simp [State.modQueue, State.queue]

/-- A register of the map reads the same after an update of anything else. -/
theorem State.reg_congr (s t : State) (h : t.regs = s.regs) (a : Nat) : t.reg a = s.reg a := by
  unfold State.reg; rw [h]

end Sys2Proof.Machine
end

