-- ==== Sys2Proof/Machine/Signals.lean ====
section
/-!
DEFINITION. The PANEL connector (R325, R326, R328): what its pins carry at each SDCLK clock of each line slot of the frame that is being
scanned. The pins follow from the state; nothing in the state follows from them.
-/
namespace Sys2Proof.Machine

open Sys2Proof

/-- The PANEL outputs at one SDCLK clock. SD holds two bits for each of eight columns, SDCE_N one bit for each source driver; `gdclkRise` says
that GDCLK rises at this clock, and `row` is the row that the gate driver selects while GDOE is high. -/
structure PanelPins where
  sd : BitVec 16
  sdceN : BitVec 4
  sdle : Bool
  sdoe : Bool
  gdsp : Bool
  gdclkRise : Bool
  gdoe : Bool
  row : Option Nat
  deriving DecidableEq, Repr

/-- Every output low: the vblank slots (R326), and while nothing is scanned or the safety logic holds the outputs (R328, R395). -/
def PanelPins.low : PanelPins :=
  { sd := 0, sdceN := 0, sdle := false, sdoe := false, gdsp := false, gdclkRise := false, gdoe := false, row := none }

/-- Drive code of the pixel at column x and row y in the frame that is scanned (R328, R339). -/
def State.driveCode (s : State) (idle x y : Nat) : Nat :=
  match SMap.get 0 s.pnl.drive (pixelKey x y) with
  | 0 => idle
  | c + 1 => c

/-- The row whose data line slot r carries: row 0 first, or row H - 1 with PNL_GATE_TIMING.gdrl (R326). -/
def State.scanRow (s : State) (r : Nat) : Nat := if s.bit R.PNL_GATE_TIMING 12 then s.pnlH - 1 - r else r

/-- SDCLK periods of a line slot (R326). -/
def State.lineClocks (s : State) : Nat := s.pnlW / 8 + s.fld R.PNL_SOURCE_TIMING 15 8

/-- The eight columns of clock c of row y on SD (R325). -/
def State.sdWord (s : State) (idle c y : Nat) : BitVec 16 :=
  BitVec.ofNat 16 ((List.range 8).foldl (fun acc k => acc + s.driveCode idle (8 * c + k) y * 4 ^ k) 0)

/-- SDCE_N at clock c of the data of a line: low for the driver of its columns (R325). -/
def chipEnable (c : Nat) : BitVec 4 := BitVec.ofNat 4 (15 - 2 ^ (c / 128))

/-- The pins at clock c of line slot r of the frame that is scanned (R325, R326). The data of row r goes out in slot r, and the row is driven in
slot r + 1. -/
def State.panelPins (s : State) (r c : Nat) : PanelPins :=
  match s.pnl.idle with
  | none => .low
  | some idle =>
    if s.pnl.low || decide (s.pnlH < r) || decide (s.lineClocks ≤ c) then .low
    else
      let n := s.pnlW / 8
      let data := decide (r < s.pnlH) && decide (c < n)
      let drives := decide (1 ≤ r)
      { sd := if data then s.sdWord idle c (s.scanRow r) else 0
        sdceN := if data then chipEnable c else 15
        sdle := decide (r < s.pnlH) && decide (n ≤ c) && decide (c < n + s.fld R.PNL_SOURCE_TIMING 3 0)
        sdoe := drives && decide (s.fld R.PNL_SOURCE_TIMING 23 16 ≤ c)
        gdsp := decide (r < s.fld R.PNL_GATE_TIMING 1 0)
        gdclkRise := drives && decide (c = 0)
        gdoe := drives && decide (s.fld R.PNL_GATE_TIMING 23 16 ≤ c)
        row := if drives then some (s.scanRow (r - 1)) else none }

/-- SDCLK's frequency in kHz, and the SDCLK periods of a frame with its vblank slots (R325, R326). -/
def State.sdclkKHz (s : State) : Nat := 400000 / s.fld R.PNL_SCAN 13 8
def State.frameClocks (s : State) : Nat := (s.pnlH + 1 + s.fld R.PNL_GATE_TIMING 11 4) * s.lineClocks

end Sys2Proof.Machine
end

