-- ==== Sys2Proof/Tests/Slice0.lean ====
section
/-!
SUPPORT. The smoke test of well-formedness, small tests of the meanings with expected values from the spec's tables and worked
examples, and for every statement with hypotheses a witness that meets them, clause by clause.
-/
namespace Sys2Proof.Tests

open Sys2Proof Sys2Proof.Machine

-- One test after the other: each evaluates in the kernel.
set_option Elab.async false

/-! ### Small states -/

/-- The Prilliner runs: MG_STATE READY. -/
def ready : State := State.reset.setFld R.MG_STATE 2 0 2

/-- A die in Noon with its link to the switch up and a valid raster. -/
def noon : DieSt := { DieSt.reset with power := 0, pcieUp := true, rasValid := true, linkUp := .replicate 4 true }

/-- All four dies in Noon, the switch on. -/
def up : State := { ready with dies := .replicate 4 noon, pins := { ready.pins with perstN := true } }

/-- The answer of a command is a next state with property p. -/
def gives (o : Host.Outcome State Fault Refusal) (p : State → Bool) : Bool :=
  match o with
  | .next t => p t
  | .fault _ => false
  | .refused _ => false

/-- The CRC byte of a request. -/
def crcOf (op : Nat) (addr : BitVec 16) (rest : List Byte) : Byte := crc8 0 (requestBytes op addr rest)

/-- The state with management register a holding w. -/
abbrev withReg (s : State) (a : Nat) (w : Word) : State := s.setReg a w

/-- The state with die d changed. -/
abbrev withDie (s : State) (d : Die) (f : DieSt → DieSt) : State := s.modDie d f

/-! ### Witnesses: the queue, the port, resets, registers (O1-O19) -/

theorem wit_StepKeepsThePortQueue :
    ({ ready with port := { ready.port with queue := List.replicate 64 (R.ALERT_MASK, 0#32) }, pending := [.commit] } : State).portOk ∧
    gives (step { ready with port := { ready.port with queue := List.replicate 64 (R.ALERT_MASK, 0#32) }, pending := [.commit] })
      (fun _ => true) = true := by
  unfold State.portOk; decide +kernel

theorem wit_StepKeepsTheMemoriesCanonical :
    ({ up with pending := [.bar2Write (.die 0) 0 [1, 2] false] } : State).memoriesOk ∧
    gives (step { up with pending := [.bar2Write (.die 0) 0 [1, 2] false] }) (fun t => t.dies[(0 : Die)].t0 == [(0, 1), (1, 2)]) = true := by
  unfold State.memoriesOk; decide +kernel

theorem wit_OnlyResetClearsTheLock :
    (ready.putBit R.CFG_STATUS 0 true).bit R.CFG_STATUS 0 = true ∧ resets .commit = false ∧
    gives (exec .commit (ready.putBit R.CFG_STATUS 0 true)) (fun _ => true) = true := by decide +kernel

theorem wit_TickCountsBoundaries :
    resets .kick = false ∧ gives (exec .kick ready) (fun t => t.reg R.MG_TICK == 0) = true ∧
    gives (exec (.mtBoundary 0 0 (.replicate 4 0) (.replicate 4 true)) ready) (fun t => t.reg R.MG_TICK == 1) = true := by
  decide +kernel

theorem wit_ReadFramesAreAnswered :
    ready.answers = true ∧ (511#16).toNat < 512 ∧ crc8 0 (requestBytes 0x0B 511#16 []) = crcOf 0x0B 511 [] ∧
    1 ≤ (64#8).toNat ∧ (64#8).toNat ≤ 64 ∧ (448#16).toNat + (64#8).toNat ≤ 512 ∧
    crc8 0 (requestBytes 0x0C 448#16 [64#8]) = crcOf 0x0C 448 [64] := by decide +kernel

theorem wit_StatusAndRereadAnswer :
    ready.answers = true ∧ crc8 0 [0x05#8] = 0x1B#8 ∧
    ({ ready with port := { ready.port with held := some [7#32] } } : State).answers = true ∧ ready.port.held = none ∧
    crc8 0 [0x0E#8] = 0x2A#8 := by decide +kernel

theorem wit_WriteFramesAreQueued :
    ready.answers = true ∧ (R.ALERT_MASK : Nat) < 512 ∧
    ready.writeStatus [(R.ALERT_MASK, 0xFF#32)] = pOk ∧ takesEntry R.ALERT_MASK = true ∧ R.ALERT_MASK ≠ R.CFG_CMD ∧
    ready.writeStatus (burstWords R.SUP_SAG_WARN 1 [420#32, 360#32]) = pOk ∧
    (∀ w ∈ burstWords R.SUP_SAG_WARN 1 [420#32, 360#32], takesEntry w.1 = true ∧ w.1 ≠ R.CFG_CMD) ∧
    ready.writeStatus ((List.replicate 64 0#32).map fun w => (R.ALERT_MASK, w)) = pOk := by decide +kernel

theorem wit_WriteFrameOutcomes :
    ready.answers = true ∧ isReserved 0x010 = false ∧ isReserved 0x00F = true ∧ ready.writeStatus [(0x00F, 1#32)] = pOk ∧
    ready.writeStatus [(R.MG_SCRATCH, 1#32)] = pOk ∧ ready.writeStatus [(R.CFG_CMD, 0x0C1C#32)] = pOk ∧
    crcOf 0x02 0 (beBytes 4 0) ≠ crcOf 0x02 0 (beBytes 4 0) + 1 ∧ 512 ≤ (512#16).toNat ∧
    (ready.setFld R.MG_STATE 2 0 1).answers = true ∧ (ready.setFld R.MG_STATE 2 0 1).fld R.MG_STATE 2 0 = 1 ∧
    isImageReg R.MG_SCRATCH = false ∧ isLockable R.SUP_SAG_WARN = true ∧
    (ready.putBit R.CFG_STATUS 2 true).bit R.CFG_STATUS 2 = true ∧ (ready.putBit R.CFG_STATUS 0 true).bit R.CFG_STATUS 0 = true ∧
    ready.fld R.MG_STATE 2 0 ≠ 1 ∧ ready.bit R.CFG_STATUS 0 = false ∧ ready.bit R.CFG_STATUS 2 = false ∧
    (List.replicate 64 ((R.ALERT_MASK : Nat), 0#32)).length = 64 := by decide +kernel

theorem wit_DiscardedAndUnansweredFrames : ready.answers = true ∧ State.reset.answers = false := by decide +kernel

/-- An overlong READ of MG_SCRATCH shows its response and then 0x00; an unknown opcode leaves MISO at 0x00 (R69, R75). -/
theorem test_discarded_miso :
    gives (exec (.discardedFrame ⟨.badLength, [0x0B, 0, 0x14, crcOf 0x0B 0x14 [], 0, 0, 0, 0, 0, 0, 0, 9, 9]⟩) ready) (fun t =>
      t.port.miso.length == 13 && t.port.miso.drop 11 == [0, 0] && t.port.miso.take 5 == [0, 0, 0, 0, 0]
        && t.port.miso.getD 10 0 != 0 && t.port.queue.isEmpty) = true ∧
    gives (exec (.discardedFrame ⟨.badOpcode, [0x77, 1]⟩) ready) (fun t => t.port.miso == [0, 0]) = true := by decide +kernel

theorem wit_MrstNResets :
    State.reset.pwr.stopped = false ∧
    ({ ready with pwr := { ready.pwr with stopped := true, smallHours := true } } : State).pwr.smallHours = true := by decide +kernel

theorem wit_BoundaryEmptiesTheWriteQueue :
    ({ ready with pwr := { ready.pwr with stopped := true } } : State).pwr.stopped = true ∧
    ready.pwr.stopped = false ∧ ({ ready with saf := { ready.saf with restart := 8 } } : State).saf.restart ≠ 0 ∧
    ready.prilRuns = true ∧ ready.saf.restart = 0 ∧ (ready.setFld R.MG_STATE 2 0 1).fld R.MG_STATE 2 0 = 1 ∧
    ready.img.booted = false := by decide +kernel

theorem wit_CommitRaisesTheEpoch : ready.prilRuns = true := by decide +kernel

theorem wit_LockAndQuiesce :
    ready.prilRuns = true ∧ up.dies[(3 : Die)].power < 5 ∧ up.dies[(3 : Die)].cmdBlk[4] = up.reg R.CFG_EPOCH ∧
    up.quiesced 3 = true := by decide +kernel

theorem wit_RegisterWritesFollowAccessCodes :
    ready.prilRuns = true ∧ isLockable R.THM_TRIP = true ∧ (ready.putBit R.CFG_STATUS 0 true).bit R.CFG_STATUS 0 = true ∧
    (ready.putBit R.CFG_STATUS 0 true).prilRuns = true := by decide +kernel

theorem wit_Bar0AccessesActOnArrival :
    up.reachable (.die 3) = true ∧ up.reachable .pf = true ∧ 2 % 4 ≠ 0 ∧ ready.reachable (.die 0) = false ∧
    (withDie up 0 fun x => { x with pcieUp := false }).switchOn = true ∧
    (withDie up 0 fun x => { x with pcieUp := false }).reachable (.die 0) = false := by decide +kernel

/-! ### Witnesses: raster, supply, power, thermal, Tidemark, memory and link (O20-O34) -/

/-- LOCKED with a line period of 800 ns, the last edge at tick 1000. -/
def locked : State :=
  let s := ready.setFld R.RAS_STATUS 2 0 2
  { s with ras := { s.ras with refAt := fineOfTick 1000, lastAccepted := 1000 } }

/-- The state with its raster changed. -/
abbrev withRas (s : State) (f : Raster → Raster) : State := { s with ras := f s.ras }

theorem wit_ReferenceEdgesAreJudged :
    (locked.tracks = true ∧ locked.now ≤ 1279 ∧ (decide (EdgeDir.rising = .falling) == locked.bit R.RAS_CTRL 4) = true ∧
      locked.rasState = 2 ∧ locked.ras.pairSlew = 0 ∧ locked.ras.due = none ∧
      8 * fineOfTick 1279 < 8 * locked.ras.refAt + 7 * locked.ras.per ∧
      8 * locked.ras.refAt + 7 * locked.ras.per ≤ 8 * fineOfTick 1280 ∧
      8 * fineOfTick 1280 < 8 * locked.ras.refAt + 9 * locked.ras.per ∧ locked.ras.frameRefAt = none) ∧
    (ready.tracks = true ∧ ready.rasState = 0 ∧ ready.bit R.RAS_STATUS 5 = false) ∧
    ((decide (EdgeDir.rising = .falling) == locked.bit R.RAS_CTRL 3) = true ∧ locked.ras.missRun = 0 ∧
      afterEdge 1080 locked.ras.lastAccepted locked.ras.per = true ∧ locked.ras.line = 0 ∧
      (withRas locked fun r => { r with line := 1 }).ras.line ≠ 0 ∧
      afterEdge 1080 (withRas locked fun r => { r with line := 1 }).ras.lastAccepted 819200 = true) ∧
    (locked.lineIsMissing 1359 = true ∧ locked.lineIsMissing 1358 = false) ∧
    (fineOfTick locked.ras.lastAccepted + 4 * locked.ras.per ≤ fineOfTick (2279 + 1) ∧
      2 ≤ (withRas locked fun r => { r with noRefFrames := 2 }).ras.noRefFrames) ∧
    ((withRas (ready.setFld R.RAS_STATUS 2 0 1) fun r => { r with acq := { Acq.idle with lastEdge := some 0 } }).rasState = 1 ∧
      (withRas (ready.setFld R.RAS_STATUS 2 0 1) fun r =>
        { r with acq := { Acq.idle with lastEdge := some 0 } }).refStopped 4400000 = true ∧
      (withRas (ready.setFld R.RAS_STATUS 2 0 1) fun r =>
        { r with held := true, acq := { Acq.idle with lastEdge := some 0, per := 819200 } }).refStopped 1279 = true) := by
  decide +kernel

theorem wit_LinesPulsesAndMarks :
    (ready.pwr.stopped = false ∧ ready.now ≤ 320 ∧ ready.freeRuns = true ∧ ready.lineEnd < fineOfTick (320 + 1) ∧
      ready.ras.pairSlew = 0 ∧ ready.ras.pairJump = none ∧ ¬ ready.lines ≤ ready.ras.line + 1 ∧
      ready.lines ≤ (withRas ready fun r => { r with line := 999 }).ras.line + 1) ∧
    (up.dies[(3 : Die)].power < 5 ∧ up.dies[(3 : Die)].rasSeen = up.ras.pulses ∧
      (withRas up fun r => { r with pulses := 1 }).dies[(3 : Die)].rasSeen ≠ (withRas up fun r => { r with pulses := 1 }).ras.pulses ∧
      up.dies[(0 : Die)].rasValid = true) := by decide +kernel

theorem wit_RasterModesAndCommands :
    (1#2 ≠ 3 ∧ (1#2).toNat ≠ ready.rasMode ∧ (2#2).toNat ≠ ready.rasMode ∧ (0#2).toNat ≠ (ready.setFld R.RAS_CTRL 1 0 2).rasMode) ∧
    (paceOk 16000 4095 = false ∧ paceOk 15999 1125 = false ∧ paceOk 237037 1125 = true ∧ ready.rasMode ≠ 1) ∧
    (ready.ras.frame + 1 < (withReg ready R.RAS_FRAME_PRESET_LO 2).fld R.RAS_FRAME_PRESET_LO 31 0 ∧
      (ready.reg R.RAS_FRAME_PRESET_LO).toNat + ready.fld R.RAS_FRAME_PRESET_HI 7 0 * 2 ^ 32 ≤ ready.ras.frame + 1) := by
  decide +kernel

theorem wit_SupplySamplesAreCounted : ready.monitorRuns = true := by decide +kernel

/-- The state with its supply monitor changed. -/
abbrev withSup (s : State) (f : Supply → Supply) : State := { s with sup := f s.sup }

/-- A Tidemark event. -/
def anEvent : TmEvent := { kind := kTrip, rasterValid := true, raster := 5, tick := 6, location := 7, payload := [1, 2], epoch := 1 }

theorem wit_SupplyLevelsAct :
    (ready.monitorRuns = true ∧ 20 ≤ (withSup ready fun x => { x with belowWarn := 20 }).sup.belowWarn ∧
      ready.bit R.SUP_STATUS 0 = false ∧ 20 ≤ (withSup ready fun x => { x with aboveWarn := 20 }).sup.aboveWarn) ∧
    (20 ≤ (withSup ready fun x => { x with belowReset := 20 }).sup.belowReset ∧ ready.sup.sagOn = false ∧
      20 ≤ (withSup ready fun x => { x with atOv := 20 }).sup.atOv ∧ ready.sup.ovOn = false) ∧
    (let s := withSup (ready.putBit R.SUP_STATUS 1 true) fun x => { x with sagOn := true, aboveReset := 20 }
     s.bit R.SUP_STATUS 1 = true ∧ s.sup.sagOn = true ∧ s.sup.ovOn = false ∧ s.saf.failedMonitors = [] ∧ 20 ≤ s.sup.aboveReset ∧
       (withSup s fun x => { x with aboveReset := 19 }).sup.aboveReset < 20) ∧
    (let s := (ready.putBit R.SUP_STATUS 5 true).setFld R.HV_VRES 15 0 599
     s.onVres = true ∧ s.fld R.HV_VRES 15 0 < 600 ∧ s.tm.cells.wf = true ∧
       ({ s with tm := { s.tm with pend := [anEvent] } } : State).tm.pend = anEvent :: []) := by decide +kernel

theorem wit_PowerStatesAreRequestedAndReached :
    (up.prilRuns = true ∧ (up.putBit R.THM_STATUS 4 true).protective = true ∧ 5 < (6#3).toNat ∧ up.protective = false ∧
      (5#3).toNat ≤ 5 ∧ up.pwr.raiseFailed[(0 : Die)] = false ∧ up.dies[(0 : Die)].power < 5 ∧
      (5#3).toNat ≠ up.dies[(0 : Die)].power) ∧
    (ready.protective = false ∧ (4#3).toNat < 5 ∧ ready.dies[(3 : Die)].power = 5 ∧ ready.dies[(3 : Die)].moving = none ∧
      ready.bit R.SUP_STATUS 0 = false ∧ ({ ready with pwr := { ready.pwr with ucodeOk := true } } : State).pwr.ucodeOk = true ∧
      (ready.putBit R.SUP_STATUS 0 true).bit R.SUP_STATUS 0 = true) ∧
    ((withDie up 0 fun x => { x with moving := some (5, true), power := 4 }).dies[(0 : Die)].moving = some (5, true) ∧
      (withDie ready 1 fun x => { x with moving := some (0, true) }).dies[(1 : Die)].power = 5 ∧
      (withDie ready 1 fun x => { x with moving := some (0, true) }).dies[(1 : Die)].moving = some (0, true) ∧
      (let s := withDie up 2 fun x => { x with power := 3, moving := some (4, true) }
       s.dies[(2 : Die)].power = 3 ∧ s.dies[(2 : Die)].moving = some (4, true) ∧ s.dies[(2 : Die)].msgs = [] ∧
         s.dies[(2 : Die)].doorbellHeld = false)) := by decide +kernel

theorem wit_SleepIdleAndWake :
    (let s := (ready.putBit R.PWR_CTRL 16 true)
     s.prilRuns = true ∧ s.bit R.PWR_CTRL 16 = true ∧ s.pwr.entering = false ∧ s.accepted = false ∧ s.allMidnight = true ∧
       s.scanning = false ∧ ({ s with pwr := { s.pwr with entering := true } } : State).pwr.entering = true ∧ s.pwr.wakeSrc = none ∧
       (some 2 : Option Nat) ≠ none) ∧
    (up.dies[(1 : Die)].moving = none ∧ up.dieIdle 1 = true ∧
      (let s := (withDie up 1 fun x => { x with selfWoken := true }).setPwrTarget 1 2
       s.dies[(1 : Die)].selfWoken = true ∧ s.pwrTarget 1 = 2 ∧ s.dieIdle 1 = true) ∧
      (let s := (withDie up 1 fun x => { x with autoIdle := true }).setPwrTarget 1 0
       s.dies[(1 : Die)].autoIdle = true ∧ s.pwrTarget 1 = 0 ∧ s.dieIdle 1 = true)) ∧
    (let s : State := { ready with pwr := { ready.pwr with smallHours := true, stopped := true } }
     s.pwr.smallHours = true ∧ s.fld R.PWR_WAKE_EN 31 16 = 0 ∧ (s.setFld R.PWR_WAKE_EN 31 16 1).fld R.PWR_WAKE_EN 31 16 ≠ 0 ∧
       s.pins.perstN = false ∧ (s.putBit R.PWR_WAKE_EN 1 true).bit R.PWR_WAKE_EN 1 = true) := by decide +kernel

theorem wit_ThermalScansAndSamples :
    (ready.samples = true ∧ ready.now ≤ 0 ∧ (List.replicate 64 0#10).length = Machine.groupSize 3 ∧
      (List.replicate 9 0#10).length = Machine.groupSize 4 ∧ ready.saf.failedMonitors = []) ∧
    (let s := ready.setChan 255 { Chan.reset with absRun := 1 }
     let codes := List.replicate 63 0x100#10 ++ [0x3FE#10]
     codes.length = Machine.groupSize 3 ∧ groupBase 3 + 63 ≠ 264 ∧ s.bit R.THM_STATUS 4 = false ∧ (s.group 3).failed = [] ∧
       ((s.group 3).scans + 1) % 8 ≠ 0 ∧ codeValid (codes.getD 63 0).toNat = true ∧
       s.tripOf (groupBase 3 + 63) ≤ (codes.getD 63 0).toNat ∧ 1 ≤ (s.chan (groupBase 3 + 63)).absRun) ∧
    (({ ready with thm := { ready.thm with sampleReq := true } } : State).thm.sampleReq = true ∧
      (List.replicate 265 0x100#10).length = 265) := by decide +kernel

theorem wit_TripsAreRearmed :
    0x0D6F#16 ≠ 0x0D6E ∧
    (let s := (ready.putBit R.THM_STATUS 4 true).putBit R.THM_STATUS 5 true
     let c : State := { s with thm := { s.thm with groups := .replicate 5 { Group.reset with scans := 1 } } }
     c.prilRuns = true ∧ State.reset.prilRuns = false ∧
     c.bit R.THM_STATUS 4 = true ∧ c.bit R.THM_STATUS 5 = true ∧ c.rearmReady = true ∧ s.rearmReady = false) ∧
    ready.bit R.THM_STATUS 4 = false ∧ up.reachable .pf = true ∧ (up.putBit R.THM_STATUS 4 true).reachable .pf = true ∧
    (up.putBit R.THM_STATUS 4 true).bit R.THM_STATUS 4 = true := by decide +kernel

theorem wit_TidemarkRecordsAndWindow :
    ready.pwr.stopped = false ∧ ready.saf.restart = 0 ∧ ready.tm.cells.wf = true ∧ ready.logScanned = true ∧
    State.reset.logScanned = false ∧
    ({ ready with tm := { ready.tm with pend := [anEvent] } } : State).tm.pend = anEvent :: [] ∧
    ({ ready with tm := { ready.tm with captureWait := some 2047 } } : State).tm.captureWait = some 2047 := by decide +kernel

theorem wit_ScrubsAndLinks :
    (up.dies[(0 : Die)].power ≤ 2 ∧ bitAt up.dies[(0 : Die)].memBlk[14] 0 = true ∧ up.dies[(0 : Die)].scrub0 + 1 < 2 ^ 28 ∧
      up.poisonAt (.die 0 (8 * up.dies[(0 : Die)].scrub0)) = none ∧ up.dies[(0 : Die)].t1Written = [] ∧ up.scrubDue 0 false ≠ (1, false) ∧
      (withDie up 0 fun x => { x with scrub0 := 2 ^ 28 - 1 }).dies[(0 : Die)].scrub0 + 1 = 2 ^ 28) ∧
    (2 < (withDie up 0 fun x => { x with power := 3 }).dies[(0 : Die)].power ∧
      bitAt (withDie up 0 fun x => { x with memBlk := x.memBlk.set 14 0 }).dies[(0 : Die)].memBlk[14] 0 = false) ∧
    ((2 : Fin 4) ≠ 3 ∧ up.dies[(3 : Die)].linkUp[(2 : Fin 4)] = true) ∧
    (let s := withDie up 3 fun x => { x with linkUp := x.linkUp.set 2 false }
     s.dies[(3 : Die)].power < 5 ∧ s.dies[linkPeer 3 2].power < 5 ∧ s.dies[(3 : Die)].linkUp[(2 : Fin 4)] = false ∧
       s.mayRetrain 3 2 = true) ∧
    (let s := withDie up 3 fun x => { x with retrainAt := x.retrainAt.set 2 (some 0) }
     s.dies[(3 : Die)].retrainAt[(2 : Fin 4)] = some 0 ∧ s.now < 0 + 320000) ∧
    (withDie up 3 fun x => { x with power := 5 }).dies[(3 : Die)].power = 5 := by decide +kernel

theorem wit_PoolAndApertureWrites :
    up.reachable (.die 3) = true ∧
    (field up.dies[(3 : Die)].memBlk[11] 19 0 = 0 ∧ field 0x3FF#32 9 0 + field up.dies[(3 : Die)].memBlk[9] 10 0 ≤ 1024 ∧
      field up.dies[(3 : Die)].memBlk[8] 9 0 + field 0x400#32 10 0 ≤ 1024 ∧
      ¬ field up.dies[(3 : Die)].memBlk[8] 9 0 + field 0x7FF#32 10 0 ≤ 1024 ∧
      (let s := withDie up 3 fun x => { x with memBlk := x.memBlk.set 11 1 }
       s.reachable (.die 3) = true ∧ field s.dies[(3 : Die)].memBlk[11] 19 0 ≠ 0)) ∧
    (field 0xFEFF#32 15 8 < field 0xFEFF#32 7 0 ∧ field 0xFFFF#32 7 0 ≤ field 0xFFFF#32 15 8) ∧
    (isLocal ((0x7FE00000#32 &&& 0xFFE00000#32).toNat + up.dies[(3 : Die)].linkBlk[3].toNat * 2 ^ 32) = true ∧
      isLocal (up.dies[(3 : Die)].linkBlk[2].toNat + (0x8000#32 &&& 0xFFFF#32).toNat * 2 ^ 32) = false) := by decide +kernel

/-- Both outcomes of a write of the pool's size, of the watermarks and of the aperture (R158, R159, R421). -/
theorem test_pool_watermark_aperture :
    gives (exec (.poolWrite 3 true 0x400) up) (fun t => t.dies[(3 : Die)].memBlk[9] == 0x400) = true ∧
    gives (exec (.poolWrite 3 true 0x7FF) up) (fun t => t.dies[(3 : Die)].memBlk[9] == up.dies[(3 : Die)].memBlk[9]
      && bitAt t.dies[(3 : Die)].memBlk[15] 4) = true ∧
    gives (exec (.watermarkWrite 3 0xFEFF) up) (fun t => t.dies[(3 : Die)].memBlk[10] == 0xFEFF) = true ∧
    gives (exec (.watermarkWrite 3 0xFFFF) up) (fun t => t.dies[(3 : Die)].memBlk[10] == up.dies[(3 : Die)].memBlk[10]
      && bitAt t.dies[(3 : Die)].memBlk[15] 4) = true ∧
    gives (exec (.apertureMove 3 false 0x7FE00000) up) (fun t => t.dies[(3 : Die)].aperture == 0x7FE00000) = true ∧
    gives (exec (.apertureMove 3 true 0x8000) up) (fun t => t.dies[(3 : Die)].aperture == up.dies[(3 : Die)].aperture
      && bitAt t.dies[(3 : Die)].linkBlk[8] 8) = true := by decide +kernel

theorem wit_Bar2ReachesTheAperture :
    up.reachable (.die 1) = true ∧ up.dies[(1 : Die)].power ≤ 2 ∧ 0x7FFFFFFF + 1 ≤ 2 ^ up.dies[(1 : Die)].cfg.bar2Log ∧
    localRange (up.dies[(1 : Die)].aperture + 0x7FFFFFFF) 1 = true ∧
    up.poisonIn 1 (up.dies[(1 : Die)].aperture + 0x7FFFFFFF) 1 = none ∧ ([1#8] : List Byte) ≠ [] ∧
    up.dies[(1 : Die)].t0.wf = true ∧ up.dies[(1 : Die)].t1.wf = true ∧
    (withDie up 1 fun x => { x with power := 3 }).reachable (.die 1) = true ∧
    (withDie up 1 fun x => { x with power := 4 }).reachable (.die 1) = true ∧
    up.reachable .pf = true ∧ 0x7FFFFF + 1 ≤ 0x800000 ∧ up.pnl.workBad = [] := by decide +kernel

/-- Paired, with the fence open. -/
def paired : State :=
  let s := up.setFld R.PAIR_STATE 2 0 2
  { s with pair := { s.pair with fence := false } }

theorem wit_PairPortRequestsAreFenced :
    up.dies[(2 : Die)].linkUp[(3 : Fin 4)] = true ∧ up.twinOpen = false ∧ paired.dies[(2 : Die)].linkUp[(3 : Fin 4)] = true ∧
    2 < (withDie paired 2 fun x => { x with power := 3 }).dies[(2 : Die)].power ∧ paired.twinOpen = true ∧
    paired.dies[(2 : Die)].power ≤ 2 ∧ localRange 0 8 = true ∧ paired.poisonIn 2 0 8 = none ∧ localRange 0x7FFFFFFF 1 = true ∧
    paired.dies[(2 : Die)].t0.wf = true ∧ paired.dies[(2 : Die)].t1.wf = true := by decide +kernel

/-- The state with the live commands of queue q of die d given, the queue running. -/
def withLive (s : State) (d : Die) (q : QIdx) (ls : List Live) : State :=
  s.modQueue (.die d) q fun x => { x with state := 1, live := ls }

/-- A command with these bytes in a phase. -/
def command (bytes : List Byte) (p : Phase) : Live :=
  { pos := 0, bytes := bytes, phase := p, status := 0, location := 0, result := 0, notBefore := none, dueBy := none, first := true,
    bell := 0, descs := [], marks := 0, ageMarks := 0, aged := false, steps := 0, splits := 0, preempts := 0, restart := false,
    busy := 0, stamp := 0, slotUsed := 0, bandUsed := 0, frames := 0, reason := 0, undo := [], stall := 0, notes := [],
    fetched := [], choice := 0, cancel := false }

theorem wit_FunctionConfigurationAndResets :
    up.switchOn = true ∧ (∀ q : QIdx, up.dies[(0 : Die)].queues[q].live = []) ∧ up.slot.held = false ∧ up.pins.perstN = true ∧
    (let l := command [] .running
     (withLive up 0 31 [l]).dies[(0 : Die)].queues[(31 : QIdx)].live = [l] ∧ l.phase = .running ∧ l.undo = []) := by decide +kernel

/-! ### Witnesses: queues, panel, supplies, pair, safety, images, bridge (O35-O49) -/

/-- 16 header bytes with opcode op and further header bits, no wait and no signal object; then the body. -/
def cmd (op bits : Nat) (body : List Byte) : List Byte :=
  let bs := leBytes 16 (op + bits + 511 * 2 ^ 21 + 511 * 2 ^ 30) ++ body
  bs ++ List.replicate (64 - bs.length) 0

theorem wit_DoorbellsAdvanceTheTail :
    up.reachable (.die 0) = true ∧ up.reachable .pf = true ∧
    (let s := withLive up 0 31 []
     s.reachable (.die 0) = true ∧ (s.queue (.die 0) 31).accepts 64 = true ∧ 64#32 ≠ (s.queue (.die 0) 31).tail ∧
       (s.queue (.die 0) 31).accepts 65 = false) ∧ 8 ≠ 4 := by decide +kernel

/-- Queue q of a function in state n with a head of 3 and a tail of 9. -/
def qState (fn : Fn) (q : QIdx) (n : Nat) (ls : List Live) : State :=
  up.modQueue fn q fun x => { x with state := n, head := 3, tail := 9, next := 4, live := ls }

theorem wit_QueueControlFollowsItsState :
    (∀ fn ∈ [Fn.die 0, Fn.pf], (qState fn 3 0 []).reachable fn = true ∧ ((qState fn 3 0 []).queue fn 3).state = 0 ∧
      inWindow ((qState fn 3 0 []).queue fn 3).ringBase = false ∧ inWindow ((qState fn 3 0 []).queue fn 3).cplBase = false ∧
      ((qState fn 3 1 [command [] .running, command [] .waiting]).queue fn 3).state = 1 ∧
      ((qState fn 3 2 [command [] .waiting]).queue fn 3).state = 2 ∧
      (qState fn 3 2 [command [] .waiting]).reachable fn = true) ∧
    (let s := (qState (.die 1) 0 0 []).modQueue (.die 1) 0 fun x => { x with ringBase := 0x800000000000 }
     s.reachable (.die 1) = true ∧ (s.queue (.die 1) 0).state = 0 ∧ inWindow (s.queue (.die 1) 0).ringBase = true) := by
  decide +kernel

theorem wit_QueueConfigurationWrites :
    (qState .pf 3 0 []).reachable .pf = true ∧ ((qState .pf 3 0 []).queue .pf 3).state = 0 ∧ field 5#32 4 0 < 6 ∧
    6 ≤ field 16#32 4 0 ∧ field 16#32 4 0 ≤ 16 ∧ ((qState (.die 2) 31 3 []).queue (.die 2) 31).state ≠ 0 ∧
    (qState (.die 2) 31 3 []).reachable (.die 2) = true ∧ (∀ q : QIdx, up.dies[(2 : Die)].queues[q].state = 0) ∧
    (qState (.die 2) 31 3 []).dies[(2 : Die)].queues[(31 : QIdx)].state ≠ 0 := by decide +kernel

/-- A queue with one visible command at address 0 of tier 0. -/
def oneCommand (fn : Fn) (q : QIdx) (bytes : List Byte) : State :=
  let s := up.modQueue fn q fun x => { x with state := 1, tail := 1 }
  s.modDie 0 fun x => { x with t0 := Memory.writeN [] 0 bytes }

/-- A NOP that waits for value w of object o, and signals none. -/
def waitCmd (o w : Nat) : List Byte := leBytes 16 (o * 2 ^ 21 + 511 * 2 ^ 30 + w * 2 ^ 40) ++ List.replicate 48 0

theorem wit_CommandsAreFetched :
    (let s := oneCommand (.die 0) 0 (cmd 0 0 [])
     s.fetchable (.die 0) 0 = true ∧ (s.queue (.die 0) 0).live = [] ∧ s.readCheck (.die 0) false 0 64 = none ∧
       s.step1 (.die 0) 0 (s.loadN (.die 0) false 0 64) = stOk ∧ (header (s.loadN (.die 0) false 0 64)).waitObj = 511) ∧
    (let s := oneCommand (.die 0) 0 (cmd 0x99 0 [])
     s.fetchable (.die 0) 0 = true ∧ s.step1 (.die 0) 0 (s.loadN (.die 0) false 0 64) = stBadOpcode) ∧
    (∀ p ∈ ([(5, 0, true), (5, 1, false)] : List (Nat × Nat × Bool)),
      let s := oneCommand (.die 0) 0 (waitCmd p.1 p.2.1)
      let h := header (s.loadN (.die 0) false 0 64)
      s.fetchable (.die 0) 0 = true ∧ s.step1 (.die 0) 0 (s.loadN (.die 0) false 0 64) = stOk ∧ h.waitObj = p.1 ∧
        s.waitState (.die 0) h.waitObj h.waitValue = some p.2.2) ∧
    (let s := withDie (oneCommand (.die 0) 0 (waitCmd 319 1)) 3 fun x => { x with power := 5 }
     let h := header (s.loadN (.die 0) false 0 64)
     s.fetchable (.die 0) 0 = true ∧ h.waitObj ≠ 511 ∧ s.waitState (.die 0) h.waitObj h.waitValue = none) ∧
    (let s := up.modQueue .pf 0 fun x => { x with state := 1, tail := 1, ringBase := 0x400000000000 }
     s.fetchable .pf 0 = true) ∧
    (let s := up.modQueue (.die 0) 0 fun x => { x with state := 1, tail := 1, ringBase := 0x90000000 }
     s.fetchable (.die 0) 0 = true ∧ s.readCheck (.die 0) false 0x90000000 64 ≠ none) := by
  decide +kernel

theorem wit_CommandsReachStep4AndNopsEnd :
    (let l := command (cmd 0 0 []) .atDesc
     let s := withLive up 0 0 [l]
     s.dieRuns 0 = true ∧ s.dies[(0 : Die)].queues[(0 : QIdx)].atStep4 = some (0, l) ∧ (s.read4 0 0 l .none).st = 0) ∧
    (let l := command (cmd 0x20 0 (leBytes 4 0xFFFFFFFF)) .atDesc
     let s := withLive up 0 16 [l]
     s.dies[(0 : Die)].queues[(16 : QIdx)].atStep4 = some (0, l) ∧ (s.read4 0 16 l .none).st ≠ 0) ∧
    (let l := command (cmd 0 0 []) .eligible
     (withLive up 0 0 [l]).startable 0 0 0x00 = some (0, l)) ∧
    (let l := command (cmd 0 0 []) .eligible
     let s := up.modQueue .pf 3 fun x => { x with state := 1, live := [l] }
     s.prilRuns = true ∧ s.panelHead (pfIdx 3) = some (0, l) ∧ byteAt l.bytes 0 = 0) := by decide +kernel

/-- The panel can drive: enabled, rails UP, VRES at 24.00 V, an energy model of zeros, band 0 in use and selected. -/
def panelReady : State :=
  let s := ((ready.setReg R.PNL_CTRL 1).setFld R.HV_STATUS 2 0 2).setReg (R.PNL_BAND0) 0x83FE0001
  let s := ((s.setReg R.PNL_TEMP 0x4000).setReg R.PNL_WF_STATUS 0xFF).setReg R.PNL_SIZE (BitVec.ofNat 32 (3840 + 720 * 65536))
  { s with hv := { s.hv with emodel := .replicate 128 0 }, sup := { s.sup with vres := .replicate 16 2400 } }

/-- Panel queue 1 holds this eligible command. -/
def withPanel (s : State) (bytes : List Byte) : State :=
  s.modQueue .pf 1 fun x => { x with state := 1, live := [command bytes .eligible] }

/-- The body of a PANEL command over a rectangle. -/
def rectBody (x y w h mode addr stride : Nat) : List Byte :=
  leBytes 2 x ++ leBytes 2 y ++ leBytes 2 w ++ leBytes 2 h ++ leBytes 4 mode ++ leBytes 4 addr ++ leBytes 4 stride

theorem wit_PanelCommandsRun_grant :
    (let b := cmd 0x40 0 (rectBody 0 0 1 1 1 0 4)
     let s := withPanel { panelReady with pnl := { panelReady.pnl with pixels := [(0, 0#32)] } } b
     s.prilRuns = true ∧ s.panelHead 1 = some (0, command b .eligible) ∧ s.cardPending = false ∧ s.pnl.parkAllWaits = false ∧
       (∀ p ∈ s.panelOrder.takeWhile (· ≠ 1), s.panelHead p = none) ∧ byteAt b 0 = 0x40 ∧ s.blocked347 1 = false ∧
       s.panelRefusal false b = 0 ∧ (s.setReg R.PNL_TEMP 0).panelRefusal false b ≠ 0 ∧
       s.verdict (s.requestOf 1 (command b .eligible)) = .grant 0 ∧ s.imagePoisoned (s.requestOf 1 (command b .eligible)) = false) ∧
    (let b := cmd 0x41 0 (rectBody 0 0 8 8 0 0 0)
     let s := withPanel { panelReady with hv := Hv.reset } b
     s.panelHead 1 = some (0, command b .eligible) ∧ byteAt b 0 = 0x41 ∧ s.blocked347 1 = false ∧ s.panelRefusal false b = 0 ∧
       (s.setReg R.PNL_WF_STATUS 0).panelRefusal false b ≠ 0 ∧
       s.verdict (s.requestOf 1 (command b .eligible)) = .never) := by decide +kernel

theorem wit_PanelCommandsRun_work :
    (let b := cmd 0x42 0 (rectBody 0 0 8 8 0 0x7FFFF0 2)
     let s := withPanel panelReady b
     s.panelHead 1 = some (0, command b .eligible) ∧ s.panelWaits b = false ∧ s.workEnd b ≤ 0x800000 ∧ (s.panelBody b).x + (s.panelBody b).w ≤ 4096 ∧
       s.pnl.pixels.wf pixelReset = true ∧ s.pnl.work.wf = true ∧ byteAt b 0 = 0x42 ∧ s.pnl.workBad = []) ∧
    (let b := cmd 0x44 0 (rectBody 3832 712 8 8 0 0 32)
     let s := withPanel panelReady b
     s.panelHead 1 = some (0, command b .eligible) ∧ s.panelWaits b = false ∧ s.workEnd b ≤ 0x800000 ∧ (s.panelBody b).x + (s.panelBody b).w ≤ 4096 ∧
       byteAt b 0 = 0x44 ∧ 4 * (s.panelBody b).w ≤ (s.panelBody b).stride) ∧
    (let b := cmd 0x43 0 (rectBody 0 0 0 0 7 (0x800000 - 999424) 0)
     let s := withPanel panelReady b
     s.panelHead 1 = some (0, command b .eligible) ∧ s.panelWaits b = false ∧ byteAt b 0 = 0x43 ∧ s.pnl.wave.wf = true ∧ s.pnl.workBad = [] ∧
       (s.panelBody b).mode < 8 ∧ (s.panelBody b).addr + 999424 ≤ 0x800000) := by decide +kernel

/-- One slot of the panel is being scanned. -/
def scanned : State :=
  panelReady.setSlot 0 { Slot.free with granted := true, active := true, owner := .queue 1, mode := 1, w := 8, h := 8 }

theorem wit_PanelFramesAndOwnCommands :
    (scanned.prilRuns = true ∧ scanned.pnl.low = false ∧ scanned.pnl.pixels.wf pixelReset = true ∧ scanned.scanning = true ∧
      panelReady.scanning = false ∧ panelReady.hvState ≠ 6) ∧
    (let s := (panelReady.setFld R.HV_STATUS 2 0 6).setFld R.HV_KICKBACK 3 0 15
     s.prilRuns = true ∧ s.pnl.low = false ∧ s.scanning = false ∧ s.hvState = 6 ∧ s.hv.measured < s.fld R.HV_KICKBACK 3 0 ∧
       (∀ n : Fin 16, (s.slotAt n.val).granted = false)) ∧
    (∀ n < 16, (scanned.slotAt n).granted = true → (scanned.slotAt n).active = true) ∧
    (∀ n, ¬ n < 16 → (scanned.slotAt n).granted = false) ∧
    (bitAt 1#32 0 = true ∧ panelReady.scanFits = true ∧ ready.bit R.PNL_CTRL 0 = false ∧
      (((panelReady.setReg R.PNL_CTRL 0).setFld R.PNL_SCAN 6 0 100).setFld R.PNL_GATE_TIMING 11 4 255).scanFits = false) ∧
    (ready.wfValid 5 = false ∧ panelReady.wfValid 5 = true ∧ panelReady.parkBand ≠ none ∧ panelReady.bit R.HV_FAULT 15 = false ∧
      panelReady.bit R.PNL_CTRL 0 = true ∧ panelReady.activeOverlap 0 0 panelReady.pnlW panelReady.pnlH false = false ∧
      panelReady.verdict panelReady.parkAllRequest = .grant 0) := by
  refine ⟨by decide +kernel, by decide +kernel, by decide +kernel, fun n h => ?_, by decide +kernel, by decide +kernel⟩
  have hn : scanned.pnl.slots[n]? = none := by simp; omega
  unfold State.slotAt
  rw [hn]; rfl

/-- The scan's pins (R325, R326): column 8c + k is on SD[2k+1:2k] at clock c, driver 1 has columns 1,024 on, row r - 1 is driven in slot
r, and with GDRL the last row comes first. -/
theorem test_panel_pins :
    (let s : State := { panelReady with pnl := { panelReady.pnl with idle := some 0, drive := [(pixelKey 9 0, 3), (pixelKey 1024 719, 2)] } }
     let g := s.putBit R.PNL_GATE_TIMING 12 true
     (s.panelPins 0 1).sd = 8#16 ∧ (s.panelPins 0 1).sdceN = 0xE#4 ∧ (s.panelPins 719 128).sd = 1#16 ∧
       (s.panelPins 719 128).sdceN = 0xD#4 ∧ (s.panelPins 0 1).row = none ∧ (s.panelPins 720 1).row = some 719 ∧
       (s.panelPins 720 1).sdceN = 0xF#4 ∧ (g.panelPins 0 128).sd = 1#16 ∧ (g.panelPins 1 1).row = some 719 ∧
       s.panelPins 721 0 = .low) := by decide +kernel

/-- HV_STATUS.state is n. -/
def hvIn (n : Nat) : State := ready.setFld R.HV_STATUS 2 0 n

theorem wit_RailsRiseFallAndMeasure :
    (let s := (ready.setReg R.HV_CTRL 1).putBit R.PNL_STATUS 3 true
     s.prilRuns = true ∧ s.mayRaise = true ∧ s.railDemand = true ∧ s.saf.failedMonitors = []) ∧
    ready.mayRaise = false ∧ (hvIn 1).hvState = 1 ∧ (hvIn 2).hvState = 2 ∧ (hvIn 2).scanning = false ∧
    (∀ n < 16, ((hvIn 2).slotAt n).granted = false) ∧ (hvIn 2).bit R.HV_CTRL 0 = false ∧
    ((hvIn 1).now < (hvIn 1).rampEnd 4 ∧ ((hvIn 1).at ((hvIn 1).rampEnd 4)).hvState = 1 ∧
      (hvIn 1).rampEnd 4 ≤ ((hvIn 1).at ((hvIn 1).rampEnd 4)).now) ∧
    (let s := (hvIn 2).setReg R.HV_CTRL 0x101
     s.hvState = 2 ∧ s.onVres = false ∧ s.now < s.hv.idleAt + 4000000 * s.fld R.HV_CTRL 15 8 ∧ s.bit R.HV_CTRL 0 = true ∧
       (s.at 4000000).hv.idleAt + 4000000 * (s.at 4000000).fld R.HV_CTRL 15 8 ≤ (s.at 4000000).now ∧
       (s.putBit R.SUP_STATUS 5 true).onVres = true) ∧
    ((hvIn 6).hv.measured < ((hvIn 6).setFld R.HV_KICKBACK 3 0 1).fld R.HV_KICKBACK 3 0 ∧
      ((hvIn 6).setFld R.HV_KICKBACK 3 0 0).fld R.HV_KICKBACK 3 0 ≤ (hvIn 6).hv.measured) ∧
    scanned.hvState = 2 ∧ scanned.scanning = true ∧ (hvIn 3).hvState = 3 ∧ (hvIn 2).onVres = false ∧ (hvIn 6).hvState = 6 ∧
    (15#4).toNat ≠ 0 ∧ (0#4).toNat = 0 ∧ ([-2000, -2001] : List Int) ≠ [] ∧
    (0 - 2048 * 2 ≤ ([-2000, -2001] : List Int).sum - 10 * (hvIn 6).railTarget 4 * 2 ∧
      ([-2000, -2001] : List Int).sum - 10 * (hvIn 6).railTarget 4 * 2 ≤ 2047 * 2) := by decide +kernel

/-- The rails in RAMP_DOWN, before the first begins to fall. -/
def falling : State := { hvIn 3 with hv := { (hvIn 3).hv with seqAt := 1 } }

/-- No rail begins to fall before the power-down does. -/
theorem seqAt_le_fallStart (s : State) (j : Nat) : s.hv.seqAt ≤ s.fallStart j := by
  induction j with
  | zero => exact Nat.le_refl _
  | succ j ih => simp only [State.fallStart]; omega

theorem wit_RailsRiseFallAndMeasure_falling :
    falling.hvState = 3 ∧ (falling.at 0).railOk 0 = true ∧ (falling.at 0).railOk 4 = true := by
  have h : falling.hvState = 3 ∧ (falling.at 0).hvState = 3 ∧ (falling.at 0).now < (falling.at 0).hv.seqAt := by decide +kernel
  have ok (k : Nat) : (falling.at 0).railOk k = true := by
    have := seqAt_le_fallStart (falling.at 0) (4 - k)
    simp only [State.railOk, h.2.1, show ¬ (3 = 1) by decide, if_true, if_false, decide_eq_true_eq]; omega
  exact ⟨h.1, ok 0, ok 4⟩

theorem wit_RailFaultsLatchAndRearm :
    (ready.faultPossible 3 4 1701 = false ∧ (hvIn 2).faultPossible 3 4 1701 = true ∧ (hvIn 2).faultPossible 3 4 1700 = false ∧
      ((hvIn 1).at ((hvIn 1).rampEnd 0 - 1)).faultPossible 0 1 (-600) = true ∧
      ((hvIn 1).at ((hvIn 1).rampEnd 0 - 1)).faultPossible 0 1 (-601) = false ∧
      (hvIn 2).faultPossible 3 5 1349 = true ∧ (hvIn 2).faultPossible 3 5 1350 = false ∧ (hvIn 2).railTarget 3 = 1500 ∧ satAt 3 ((hvIn 2).fld R.HV_FAULT 9 8 + 1) = 1 ∧
      satAt 3 (((hvIn 2).setFld R.HV_FAULT 9 8 2).fld R.HV_FAULT 9 8 + 1) = 3) ∧
    ((hvIn 2).railsPowered = true ∧ ((hvIn 2).setFld R.HV_VRES 15 0 899).fld R.HV_VRES 15 0 < 900 ∧
      2000 ≤ (ready.setFld R.HV_VRES 15 0 2000).fld R.HV_VRES 15 0 ∧ (hvIn 4).hvState = 4 ∧
      (hvIn 4).hv.faultAt + 40000000 ≤ ((hvIn 4).at 40000000).now ∧ (hvIn 4).now < (hvIn 4).hv.faultAt + 40000000 ∧
      (hvIn 2).hv.upAt + 400000000 ≤ ((hvIn 2).at 400000000).now ∧ (hvIn 2).now < (hvIn 2).hv.upAt + 400000000) ∧
    ((0x0C3A#16).toNat = 0x0C3A ∧ (0x0C3B#16).toNat ≠ 0x0C3A ∧ ready.bit R.HV_FAULT 15 = false ∧
      ((hvIn 5).putBit R.HV_FAULT 15 true).bit R.HV_FAULT 15 = true ∧ (hvIn 5).hv.charged = false) ∧
    (let s : State := { panelReady with hv := { panelReady.hv with cardWaits := true, cardRecord := some 0 } }
     s.prilRuns = true ∧ s.hv.cardText = [] ∧ s.cardAllowed = false ∧ s.cardAfterPark = false ∧
       ({ s with hv := { s.hv with cardCause := 2 }, pnl := { s.pnl with sagStop := true } } : State).cardAfterPark = true ∧
       ((s.setReg R.HV_TRIPCARD 0x10000000).setReg R.HV_CTRL 1).cardAllowed = true ∧
       ((s.setReg R.HV_TRIPCARD 0x10000000).setReg R.HV_CTRL 1).verdict
         ((s.setReg R.HV_TRIPCARD 0x10000000).setReg R.HV_CTRL 1).cardRequest = .grant 0) := by decide +kernel

/-- A pair frame of a kind, with its state field and CRC. -/
def pairFrame (kind state : Nat) : List Byte :=
  let b := leBytes 4 1 ++ leBytes 1 kind ++ leBytes 1 (1 + 4 * state + 32) ++ List.replicate 54 0
  b ++ leBytes 4 (crc32 b).toNat

/-- The pair is accepted and the peer was heard at time 0. -/
def joined : State :=
  { (ready.setFld R.PAIR_STATE 2 0 2) with pair := { ready.pair with fence := false } }

/-- Small hours. -/
def asleep : State :=
  { (ready.setReg R.PWR_WAKE_EN 0x1F) with pwr := { ready.pwr with stopped := true, smallHours := true } }

theorem wit_PairFramesArrive :
    (∀ k ∈ [1, 2, 3, 4], joined.frameValid (pairFrame k 2) = true ∧ frameKind (pairFrame k 2) = k) ∧
    joined.prilRuns = true ∧ joined.accepted = true ∧ (readFrame (pairFrame 1 4)).state = 4 ∧
    joined.frameValid (pairFrame 1 4) = true ∧ (readFrame (pairFrame 1 2)).state ≠ 4 ∧ ready.accepted = false ∧
    asleep.frameValid (pairFrame 3 2) = true ∧ asleep.pwr.smallHours = true ∧ asleep.bit R.PWR_WAKE_EN 2 = true ∧
    2 ≤ asleep.fld R.MG_STATE 2 0 ∧ asleep.saf.restart = 0 ∧ joined.pwr.smallHours = false ∧
    joined.frameValid ((pairFrame 1 2).set 63 0) = false ∧
    (joined.pair.sleepSent = false ∧ joined.pair.lastAt + 1280000 ≤ (joined.at 1280000).now ∧
      joined.pair.graceUntil ≤ (joined.at 1280000).now ∧ (joined.at 1279999).now < joined.pair.lastAt + 1280000) := by
  decide +kernel

/-- PAIR_LOST with no signal seen, serial check 0x1234. -/
def lost : State := (ready.setFld R.PAIR_STATE 2 0 4).setReg R.PAIR_PEER_SERIAL_LO 0x1234

theorem wit_PairCommandsAndCheckpoints :
    (lost.prilRuns = true ∧ lost.pairState = 4 ∧ (0x1234#16).toNat = lost.fld R.PAIR_PEER_SERIAL_LO 15 0 ∧
      lost.signalling = false ∧ ready.pairState ≠ 4) ∧
    ((ready.putBit R.PAIR_STATE 13 true).bit R.PAIR_STATE 13 = true ∧ ready.bit R.PAIR_STATE 13 = false ∧
      (ready.setReg R.PAIR_CTRL 1).bit R.PAIR_CTRL 0 = true) ∧
    (let s := withDie (ready.setReg R.PAIR_CTRL 0x10) 0 fun x => { x with events := [.doorbellWake, .checkpoint 7 true] }
     s.pwr.stopped = false ∧
       takeFirst DieEvent.isCheckpoint s.dies[(0 : Die)].events = some (.checkpoint 7 true, [.doorbellWake]) ∧
       (∀ e : Die, s.bit R.PAIR_CTRL (4 + e.val) = true → e = 0)) ∧
    (let s := withDie (ready.setReg R.PAIR_CTRL 0xF0) 3 fun x => { x with events := [.checkpoint 7 false] }
     takeFirst DieEvent.isCheckpoint s.dies[(3 : Die)].events = some (.checkpoint 7 false, []) ∧
       s.bit R.PAIR_CTRL (4 + 3) = true) := by decide +kernel

theorem wit_LevelThreeCausesStopTheTray :
    ready.coresRun = true ∧ (ready.setFld R.SAF_WDT 7 0 4).fld R.SAF_WDT 7 0 ≤ 4 ∧ (ready.setFld R.SAF_WDT 7 0 4).coresRun = true ∧
    3 < (ready.setFld R.SAF_WDT 7 0 4).fld R.SAF_WDT 7 0 ∧
    ({ ready with saf := { ready.saf with restart := 8 } } : State).saf.restart ≠ 0 ∧ ready.pwr.stopped = false ∧
    ready.saf.restart = 0 := by decide +kernel

theorem wit_SafetyStateFollowsItsCauses :
    ready.prilRuns = true ∧ ready.causeConditions.testBit 13 = false ∧
    ({ (ready.setFld R.SAF_WDT 15 8 1) with saf := { ready.saf with heartbeat := 1 } } : State).prilRuns = true ∧
    ({ (ready.setFld R.SAF_WDT 15 8 1) with saf := { ready.saf with heartbeat := 1 } } : State).causeConditions.testBit 13 = true ∧
    ([MonitorId.sag] : List MonitorId) ≠ [] ∧ ready.coresRun = true ∧ ready.pnl.pixels.wf pixelReset = true ∧
    0x100000 - 1 < 0x100000 := by decide +kernel

/-- MG_IMG_STATUS.state is n, with target t. -/
def imgIn (n t : Nat) : State := { (ready.setFld R.MG_IMG_STATUS 7 0 n) with img := { ready.img with target := t } }

theorem wit_ImagesAreLoadedVerifiedAndStarted :
    ready.coresRun = true ∧ ready.imgState ≠ 2 ∧ (1#2).toNat ≤ 1 ∧ 1 < (2#2).toNat ∧ (imgIn 1 1).imgState = 1 ∧ (imgIn 1 1).coresRun = true ∧
    (imgIn 1 1).img.target ≤ 1 ∧ (imgIn 1 1).fld R.MG_IMG_ADDR 23 0 < maxPayload 1 + 32 ∧
    ((imgIn 1 1).img.inactive 1).words.wf 0 = true ∧ (imgIn 2 0).imgState = 2 ∧ (imgIn 2 0).img.target ≤ 1 ∧
    State.reset.fld R.MG_STATE 2 0 = 0 ∧ State.reset.pwr.stopped = false ∧ State.reset.img.booted = false ∧
    ready.prilRuns = true ∧ ready.pwr.ucodeOk = false := by decide +kernel

theorem wit_BridgeMessagesAndEvents :
    (∀ m ∈ [BridgeMsg.power 0, .power 4, .throttle 1 2, .wakeConfig true false, .epoch 5],
      let s := withDie up 2 fun x => { x with msgs := [m] }
      s.dies[(2 : Die)].msgs = m :: [] ∧ s.dies[(2 : Die)].power < 5 ∧ s.dies[(2 : Die)].moving = none ∧
        (∀ e : Fin 3, s.dies[(2 : Die)].engines[e].running = none) ∧ s.dieIdle 2 = true) ∧
    (let s := (withDie up 2 fun x => { x with msgs := [.power 4] }).modQueue (.die 2) 0 fun x => { x with state := 1, tail := 1 }
     s.dieIdle 2 = false ∧ s.dies[(2 : Die)].power < 4 ∧ s.dies[(2 : Die)].queues[(0 : QIdx)].state ≠ 0 ∧
       s.dies[(2 : Die)].queues[(0 : QIdx)].epoch ≠ 5) ∧
    (∀ e ∈ [DieEvent.stateReached 4 true, .memUe 3, .doorbellWake, .raiseFailed 9],
      takeFirst (fun e => !e.isCheckpoint) (withDie ready 1 fun x => { x with events := [.checkpoint 1 true, e] }).dies[(1 : Die)].events
        = some (e, [.checkpoint 1 true])) ∧ ready.pwr.stopped = false := by decide +kernel

/-! ### Witnesses: the engines and the life of a command (O50-O60) -/

/-- Every byte of a run leads to memory in one region, as a test that runs. -/
def regionCheck (s : State) (v : Port3) (p : Nat × Nat) : Bool :=
  (List.range p.2).all fun i => match s.routeFn v.fn v.tw (p.1 + i) with
    | .ok x => (match x with | .pfRegs _ => false | _ => true) && decide (targetCode x = ((s.place v p).1, (s.place v p).2.1 + i))
    | .error _ => false

theorem oneRegion_of_check {s : State} {v : Port3} {p : Nat × Nat} (h : regionCheck s v p = true) : s.oneRegion v p := by
  intro i hi
  have := (List.all_eq_true.mp h) i (List.mem_range.mpr hi)
  split at this
  · rename_i x hx
    simp only [Bool.and_eq_true, decide_eq_true_eq] at this
    refine ⟨x, hx, fun o h => ?_, this.2⟩
    subst h; simp at this
  · simp at this

/-- Two runs share no byte, as a test that runs. -/
def apartCheck (x y : Nat × Nat × Nat) : Bool := decide (x.1 ≠ y.1 ∨ x.2.1 + x.2.2 ≤ y.2.1 ∨ y.2.1 + y.2.2 ≤ x.2.1)

theorem apart_iff_check (x y : Nat × Nat × Nat) : apart x y ↔ apartCheck x y = true := by
  simp [apart, apartCheck]

/-- A work fits, as a test that runs. -/
def fitsCheck (s : State) (v : Port3) (w : Work) : Bool :=
  decide (s.readFail v (w.checks ++ w.reads) = none) && decide (s.writeFail v (emitSpans w.emits) = none)
    && (w.reads ++ emitSpans w.emits).all (regionCheck s v)
    && decide ((emitSpans w.emits).Pairwise fun x y => apartCheck (s.place v x) (s.place v y) = true)
    && (emitSpans w.emits).all fun x => w.reads.all fun y => apartCheck (s.place v x) (s.place v y)

theorem workFits_of_check {s : State} {v : Port3} {w : Work} (h : fitsCheck s v w = true) : s.workFits v w := by
  simp only [fitsCheck, Bool.and_eq_true, decide_eq_true_eq, List.all_eq_true] at h
  obtain ⟨⟨⟨⟨h1, h2⟩, h3⟩, h4⟩, h5⟩ := h
  refine ⟨h1, h2, fun p hp => oneRegion_of_check (h3 p hp), ?_, fun x hx y hy => (apart_iff_check _ _).mpr (h5 x hx y hy)⟩
  exact h4.imp fun h => (apart_iff_check _ _).mpr h

/-- A tensor of BF16 or FP32 elements in tier 0. -/
def tensor (base fmt : Nat) (dims : List Nat) : Desc :=
  { base := base, format := fmt, rank := dims.length, mx := false, scaleDim := 0,
    dims := Vector.ofFn fun i : Fin 5 => dims.getD i.val 0,
    strides := Vector.ofFn fun i : Fin 5 => if i.val = 0 then 0 else 0x40, scaleBase := 0 }

/-- An eligible command at the head of queue q of die 0, with its descriptors. -/
def eng (q : QIdx) (bytes : List Byte) (ds : List Desc) : State :=
  withLive up 0 q [{ command bytes .eligible with descs := ds }]

/-- The command of `eng`. -/
def engLive (bytes : List Byte) (ds : List Desc) : Live := { command bytes .eligible with descs := ds }

/-- The body of a deterministic GEMM or CONV3D with strides and dilations 1. -/
def matBody : List Byte := List.replicate 14 0 ++ [1, 0] ++ List.replicate 16 0 ++ [1, 1, 1, 0, 0, 0, 0, 0, 0, 1, 1, 1]

def gemmDs : List Desc := [tensor 0x100 2 [2, 1], tensor 0x200 2 [2, 1], tensor 0x300 1 [1, 1]]
def convDs : List Desc := [tensor 0x100 2 [2, 1, 1, 1, 1], tensor 0x200 2 [2, 1, 1, 1, 1], tensor 0x300 1 [1, 1, 1, 1, 1]]
def pairDs : List Desc := [tensor 0x100 1 [2, 1], tensor 0x200 1 [4, 1]]
def sameDs : List Desc := [tensor 0x100 2 [2, 1], tensor 0x200 2 [2, 1]]
def planeDs : List Desc := [tensor 0x100 1 [4, 4], tensor 0x300 0x0E [4, 1]]
/-- The same with an operand beyond tier 0. -/
def badDs (ds : List Desc) (i : Nat) : List Desc := ds.modify i fun d => { d with base := 0x90000000 }

theorem wit_ComputeCommandsRun :
    ((eng 0 (cmd 0x10 0 matBody) gemmDs).memoriesOk) ∧ (up.startable 0 0 0x10 = none) ∧
    (let b := cmd 0x10 0 matBody
     (eng 0 b gemmDs).startable 0 0 0x10 = some (0, engLive b gemmDs) ∧
     (eng 0 b gemmDs).workFits (viewOf (.die 0) 0)
       ((((eng 0 b gemmDs).beginExec 0 0 0).veil 0 0 0).gemmWork (viewOf (.die 0) 0) (engLive b gemmDs))) ∧
    (let b := cmd 0x11 0 matBody
     (eng 0 b convDs).startable 0 0 0x11 = some (0, engLive b convDs) ∧
     (eng 0 b convDs).workFits (viewOf (.die 0) 0)
       ((((eng 0 b convDs).beginExec 0 0 0).veil 0 0 0).convWork (viewOf (.die 0) 0) (engLive b convDs))) ∧
    (let b := cmd 0x14 0 []
     (eng 0 b pairDs).startable 0 0 0x14 = some (0, engLive b pairDs) ∧
     (eng 0 b pairDs).workFits (viewOf (.die 0) 0)
       ((((eng 0 b pairDs).beginExec 0 0 0).veil 0 0 0).statsWork (viewOf (.die 0) 0) (engLive b pairDs))) ∧
    (let b := cmd 0x15 0 []
     (eng 0 b sameDs).startable 0 0 0x15 = some (0, engLive b sameDs) ∧
     (eng 0 b sameDs).workFits (viewOf (.die 0) 0)
       ((((eng 0 b sameDs).beginExec 0 0 0).veil 0 0 0).eltwiseWork (viewOf (.die 0) 0) (engLive b sameDs))) ∧
    (let b := cmd 0x16 0 (leBytes 6 0xFFFF00000000)
     (eng 0 b planeDs).startable 0 0 0x16 = some (0, engLive b planeDs) ∧
     (eng 0 b planeDs).workFits (viewOf (.die 0) 0)
       ((((eng 0 b planeDs).beginExec 0 0 0).veil 0 0 0).classifyWork (viewOf (.die 0) 0) (engLive b planeDs))) := by
  refine ⟨by unfold State.memoriesOk; decide +kernel, by decide +kernel, ⟨by decide +kernel, workFits_of_check ?_⟩,
    ⟨by decide +kernel, workFits_of_check ?_⟩, ⟨by decide +kernel, workFits_of_check ?_⟩, ⟨by decide +kernel, workFits_of_check ?_⟩,
    ⟨by decide +kernel, workFits_of_check ?_⟩⟩ <;> decide +kernel

theorem wit_ComputeCommandsRun_failures :
    (let b := cmd 0x15 0 []
     let s := eng 0 b (badDs sameDs 0)
     let w := ((s.beginExec 0 0 0).veil 0 0 0).eltwiseWork (viewOf (.die 0) 0) (engLive b (badDs sameDs 0))
     s.startable 0 0 0x15 = some (0, engLive b (badDs sameDs 0)) ∧
       (s.readFail (viewOf (.die 0) 0) (w.checks ++ w.reads)).map (·.status) = some stMemRange) ∧
    (let b := cmd 0x15 0 []
     let s := eng 0 b (badDs sameDs 1)
     let w := ((s.beginExec 0 0 0).veil 0 0 0).eltwiseWork (viewOf (.die 0) 0) (engLive b (badDs sameDs 1))
     s.startable 0 0 0x15 = some (0, engLive b (badDs sameDs 1)) ∧
       s.readFail (viewOf (.die 0) 0) (w.checks ++ w.reads) = none ∧
       (s.writeFail (viewOf (.die 0) 0) (emitSpans w.emits)).map (·.status) = some stMemRange) := by decide +kernel

/-- An ATTEND over one key of one page: the entry of the page is `pte`, the sequence's flags are `flags`. -/
def attLive (flags : Nat) : Live :=
  { command (cmd 0x12 0 (List.replicate 20 0 ++ [2])) .eligible with
    descs := [tensor 0x8000 2 [64, 1, 1], Desc.none, Desc.none, tensor 0x9000 2 [64, 1, 1], tensor 0xA000 3 [4, 1]],
    notes := [(0, leBytes 4 0 ++ leBytes 4 0x10001 ++ List.replicate 56 0), (1, leBytes 16 (2 ^ 64 + 2 ^ 96)),
      (0x1000, leBytes 8 0x1000 ++ leBytes 4 1 ++ leBytes 4 1 ++ [0, 0, 1, 0, BitVec.ofNat 8 flags, 0] ++ leBytes 4 0xFFFFFFFF
        ++ leBytes 4 0x10001 ++ List.replicate 30 0)] }

/-- Die 0 with the ATTEND at the head of queue 0 and a page entry of value pte at 0x1000. -/
def attState (flags pte : Nat) (l : Live) : State :=
  let s := withLive up 0 0 [{ l with notes := (attLive flags).notes }]
  s.modDie 0 fun x => { x with t0 := Memory.writeN [] 0x1000 (leBytes 8 pte) }

/-- An ATTEND_BWD over one flat key. -/
def bwdLive : Live :=
  { command (cmd 0x13 0 []) .eligible with
    descs := [tensor 0x8000 2 [64, 1, 1], tensor 0x8100 2 [64, 1, 1, 1], tensor 0x8200 2 [64, 1, 1, 1], tensor 0x8300 2 [64, 1, 1],
      tensor 0x8400 2 [64, 1, 1], tensor 0xA000 3 [4, 1], Desc.none, tensor 0xB000 1 [2, 1, 1], Desc.none, Desc.none, Desc.none,
      tensor 0x9000 1 [64, 1, 1], tensor 0x9200 1 [64, 1, 1, 1], tensor 0x9400 1 [64, 1, 1, 1]],
    notes := [(0, leBytes 4 0 ++ leBytes 4 0x10001 ++ List.replicate 56 0), (1, leBytes 16 (2 ^ 64 + 2 ^ 96))] }

/-- The pool is units 0 to 511 of die 0, paging is on, sequence 0 holds a page of 16 tokens, and queue 24 a PAGE command. -/
def pageState (op : Nat) (body : List Byte) : State :=
  let s := withLive up 0 24 [{ command (cmd op 0 body) .eligible with
    descs := [tensor 0x60000000 2 [64, 1, 1], tensor 0x60001000 2 [64, 1, 1]],
    notes := [(0x1000, (attLive 1).note 0x1000), (0x1001, (attLive 1).note 0x1000)] }]
  s.modDie 0 fun x => { x with
    memBlk := (x.memBlk.set 8 1).set 9 1,
    pageBlk := (((x.pageBlk.set 0 3).set 2 0x40000000).set 4 0x41000000).set 6 0,
    t0 := Memory.writeN (Memory.writeN [] 0x40000000 ((attLive 1).note 0x1000)) 0x40000040 ((attLive 1).note 0x1000) }

/-- The status of the PAGE command's work. -/
def pageSt (op : Nat) (f : State → PageCtx → Pg) (body : List Byte) : Nat :=
  (f ((pageState op body).beginPage 0 24 0) (pageCtx 0 24 ((pageState op body).dies[(0 : Die)].queues[(24 : QIdx)].live.getD 0
    (command [] .eligible)))).st

theorem wit_ComputeCommandsRun_backward :
    (let s := withLive up 0 0 [bwdLive]
     s.startable 0 0 0x13 = some (0, bwdLive) ∧
       s.workFits (viewOf (.die 0) 0) (((s.beginExec 0 0 0).veil 0 0 0).attendBwdWork (viewOf (.die 0) 0) 0 bwdLive)) :=
  ⟨by decide +kernel, workFits_of_check (by decide +kernel)⟩

theorem wit_AttendRunsStallsOrEnds :
    (attState 1 0x201 (attLive 1)).memoriesOk ∧
    (let s := attState 1 0x201 (attLive 1)
     let l := attLive 1
     let b := s.beginExec 0 0 0
     s.startable 0 0 0x12 = some (0, l) ∧ l.stall = 0 ∧ l.fetched = [] ∧
       b.readFail (viewOf (.die 0) 0) (b.walkSpans 0 l (attendOf l)) = none ∧ b.attStop 0 l (attendOf l) = none ∧
       s.workFits (viewOf (.die 0) 0) ((b.veil 0 0 0).attendWork b (viewOf (.die 0) 0) 0 l (attendOf l))) ∧
    (let b := (attState 1 0x211 (attLive 1)).beginExec 0 0 0
     b.attStop 0 (attLive 1) (attendOf (attLive 1)) = some .latent) ∧
    (let b := (attState 3 2 (attLive 3)).beginExec 0 0 0
     b.attStop 0 (attLive 3) (attendOf (attLive 3)) = some .miss) ∧
    (let b := (attState 1 2 (attLive 1)).beginExec 0 0 0
     b.attStop 0 (attLive 1) (attendOf (attLive 1)) = some (.stall 0 0)) := by
  refine ⟨by unfold State.memoriesOk; decide +kernel, ⟨by decide +kernel, by decide +kernel, by decide +kernel, by decide +kernel,
    by decide +kernel, workFits_of_check (by decide +kernel)⟩, by decide +kernel, by decide +kernel, by decide +kernel⟩

/-- The ATTEND of `attLive` stalled on its page, its state saved. -/
def stalled (pool : Word) : State :=
  let l : Live := { attLive 1 with phase := .preempted, stall := 1 }
  let s := withLive up 0 0 [l]
  s.modDie 0 fun x => { x with t0 := Memory.writeN [] 0x1000 (leBytes 8 2), memBlk := (x.memBlk.set 8 1).set 9 pool,
                               pageBlk := (((x.pageBlk.set 0 3).set 2 0x40000000).set 4 0x41000000).set 8 0x50000000 }

theorem wit_AttendRunsStallsOrEnds_fill :
    (let l : Live := { attLive 1 with phase := .preempted, stall := 1 }
     (stalled 1).dieRuns 0 = true ∧ (stalled 1).stalledAt 0 0 = some (0, l) ∧
       (stalled 1).attStop 0 l (attendOf l) = some (.stall 0 0) ∧
       ((stalled 1).bring 0 (queueRequester (.die 0) 0) 0 (readSeq (l.note 0x1000)) 0).st = 0 ∧ l.phase = .preempted ∧
       ((stalled 0).bring 0 (queueRequester (.die 0) 0) 0 (readSeq (l.note 0x1000)) 0).st ≠ 0 ∧
       (stalled 0).stalledAt 0 0 = some (0, l)) := by decide +kernel

theorem wit_AttendRunsStallsOrEnds_walk :
    (let l := attLive 1
     let s := (attState 1 0x201 l).setPoison 0 (unitOf 0x1000) (some true)
     let b := s.beginExec 0 0 0
     s.startable 0 0 0x12 = some (0, l) ∧ l.stall = 0 ∧
       (b.readFail (viewOf (.die 0) 0) (b.walkSpans 0 l (attendOf l))).isSome = true) := by decide +kernel

theorem wit_CopyCommandsMoveTheirElements :
    (eng 16 (cmd 0x20 0 []) sameDs).memoriesOk ∧
    (∀ op ∈ [0x20, 0x21, 0x22], (eng 16 (cmd op 0 []) sameDs).startable 0 16 op = some (0, engLive (cmd op 0 []) sameDs)) ∧
    ((eng 16 (cmd 0x20 0 []) sameDs).workFits (viewOf (.die 0) 16)
      ((((eng 16 (cmd 0x20 0 []) sameDs).beginExec 0 16 0).veil 0 16 0).copyWork (viewOf (.die 0) 16) 0x20 (engLive (cmd 0x20 0 []) sameDs))) ∧
    ((eng 16 (cmd 0x21 0 []) sameDs).workFits (viewOf (.die 0) 16)
      ((((eng 16 (cmd 0x21 0 []) sameDs).beginExec 0 16 0).veil 0 16 0).copyWork (viewOf (.die 0) 16) 0x21 (engLive (cmd 0x21 0 []) sameDs))) ∧
    ((eng 16 (cmd 0x22 0 []) sameDs).workFits (viewOf (.die 0) 16)
      ((((eng 16 (cmd 0x22 0 []) sameDs).beginExec 0 16 0).veil 0 16 0).copyWork (viewOf (.die 0) 16) 0x22 (engLive (cmd 0x22 0 []) sameDs))) ∧
    (let b := cmd 0x23 0 (leBytes 4 0 ++ leBytes 5 1)
     let ds := [tensor 0x100 2 [2, 3], tensor 0x400 2 [3, 2]]
     (eng 16 b ds).startable 0 16 0x23 = some (0, engLive b ds) ∧
     (eng 16 b ds).workFits (viewOf (.die 0) 16) ((((eng 16 b ds).beginExec 0 16 0).veil 0 16 0).copyWork (viewOf (.die 0) 16) 0x23 (engLive b ds)) ∧
     permAt (b.drop 16) 0 = 1 ∧ permAt (b.drop 16) 1 = 0 ∧ (eng 16 b ds).dies[(0 : Die)].queues[(16 : QIdx)].live.take 0 = []) ∧
    (let s := eng 16 (cmd 0x20 0 []) (badDs sameDs 0)
     let w := ((s.beginExec 0 16 0).veil 0 16 0).copyWork (viewOf (.die 0) 16) 0x20 (engLive (cmd 0x20 0 []) (badDs sameDs 0))
     (s.writeFail (viewOf (.die 0) 16) w.reads).isSome = true) ∧
    (let s := eng 16 (cmd 0x20 0 []) (badDs sameDs 1)
     let w := ((s.beginExec 0 16 0).veil 0 16 0).copyWork (viewOf (.die 0) 16) 0x20 (engLive (cmd 0x20 0 []) (badDs sameDs 1))
     s.writeFail (viewOf (.die 0) 16) w.reads = none ∧ (s.writeFail (viewOf (.die 0) 16) (emitSpans w.emits)).isSome = true) := by
  refine ⟨by unfold State.memoriesOk; decide +kernel, by decide +kernel, workFits_of_check (by decide +kernel),
    workFits_of_check (by decide +kernel), workFits_of_check (by decide +kernel), ⟨by decide +kernel,
    workFits_of_check (by decide +kernel), by decide +kernel, by decide +kernel, rfl⟩, by decide +kernel,
    by decide +kernel⟩

/-- The state before a PAGE command of opcode op starts, and its command. -/
def pageLive (op : Nat) (body : List Byte) : Option (Nat × Live) := (pageState op body).startable 0 24 op

theorem wit_PageCommandsRun :
    ((pageState 0x30 (leBytes 12 0 ++ leBytes 4 1 ++ leBytes 3 0xFFFF)).startable 0 24 0x30).isSome = true ∧
    pageSt 0x30 State.mapWork (leBytes 12 0 ++ leBytes 4 1 ++ leBytes 3 0xFFFF) = 0 ∧
    (pageLive 0x31 (leBytes 4 0x10000 ++ leBytes 8 0)).isSome = true ∧
    pageSt 0x31 State.shareWork (leBytes 4 0x10000 ++ leBytes 8 0) = 0 ∧
    (∀ p ∈ ([(0x32, State.cowWork), (0x34, State.prefetchWork), (0x35, State.evictWork), (0x37, State.compactWork)]
        : List (Nat × (State → PageCtx → Pg))), (pageLive p.1 []).isSome = true ∧ pageSt p.1 p.2 [] = 0) ∧
    (pageLive 0x33 (leBytes 4 0xFFFFFFFF)).isSome = true ∧ pageSt 0x33 State.spillWork (leBytes 4 0xFFFFFFFF) = 0 ∧
    (pageLive 0x36 []).isSome = true ∧ pageSt 0x36 State.shadowWork [] = 0x202 ∧
    (pageState 0x36 []).fld R.PAIR_STATE 2 0 ≠ 2 ∧ (pageState 0x30 []).startable 0 24 0x31 = none := by decide +kernel

/-- Paging and autonomous spill are on, MEM_POOL_USED holds `used`, `spilling` is the spill bit of PG_STATUS, the table entry of
unit 0 names page 0 of sequence 0 in the pool, and tier 1 has a region of 512 units. -/
def spillState (used spilling : Word) : State :=
  (pageState 0 []).modDie 0 fun x => { x with
    pageBlk := ((x.pageBlk.set 0 3).set 1 spilling).set 7 1, memBlk := x.memBlk.set 11 (0x80000000#32 ||| used),
    page := { x.page with spilling := bitAt spilling 20 },
    queues := x.queues.set 24 { x.queues[(24 : QIdx)] with live := [] },
    t0 := Memory.writeN (Memory.writeN x.t0 0x1000 (leBytes 8 0x20001)) 0x41000000 (leBytes 16 (1 + 2 ^ 48)) }

theorem wit_AutoSpillAndPageEnable :
    (up.spillWanted 0 = false ∧ up.dies[(0 : Die)].page.spilling = false) ∧
    (let s := spillState 400 0x100000
     s.spillWanted 0 = false ∧ s.dies[(0 : Die)].page.spilling = true) ∧
    (let s := withDie (spillState 500 0) 0 fun x => { x with power := 3 }
     s.spillWanted 0 = true ∧ s.spillTurn 0 = false) ∧
    (up.reachable (.die 0) = true ∧ up.paged 0 = false ∧ bitAt (0#32) 0 = false ∧ bitAt (7#32) 0 = true) ∧
    (let x := { up.dies[(0 : Die)] with
        pageBlk := up.dies[(0 : Die)].pageBlk.set 0 (setBit (setField up.dies[(0 : Die)].pageBlk[0] 2 1 (field 7#32 2 1)) 0 false) }
     x.pageReady = false) ∧
    (let x := { up.dies[(0 : Die)] with
        pageBlk := up.dies[(0 : Die)].pageBlk.set 0 (setBit (setField up.dies[(0 : Die)].pageBlk[0] 2 1 (field 3#32 2 1)) 0 false) }
     x.pageReady = true) ∧
    (let s := spillState 0 0
     s.reachable (.die 0) = true ∧ s.paged 0 = true ∧
       (∀ q : QIdx, engineOf q = .page →
         (withDie s 0 fun x => { x with queues := .replicate 32 Queue.reset }).dies[(0 : Die)].queues[q].state = 0) ∧
       s.dies[(0 : Die)].page.spilling = false ∧ (engineOf 24 = .page ∧ s.dies[(0 : Die)].queues[(24 : QIdx)].state ≠ 0)) := by
  decide +kernel

theorem wit_AutoSpillAndPageEnable_moves :
    (let s := spillState 500 0
     s.spillWanted 0 = true ∧ s.spillTurn 0 = true ∧ ((s.startSpill 0).spillPool 0 (.engine .page 8)).st = 0) := by
  decide +kernel

/-- A running command at the head of queue 0 of die 0, and its engine. -/
def runningState : State :=
  withDie (withLive up 0 0 [command (cmd 0x15 0 []) .running]) 0 fun x =>
    { x with engines := x.engines.set 0 { x.engines[(0 : Fin 3)] with running := some 0 } }

/-- The same with an eligible command in an URGENT queue. -/
def urgent : State := runningState.modQueue (.die 0) 1 fun x =>
  { x with state := 1, cls := 0, inSlot := true, live := [command (cmd 0x15 0 []) .eligible] }

/-- The same with the command of queue 0 saved. -/
def savedState : State :=
  withDie (withLive up 0 0 [command (cmd 0x15 0 []) .preempted]) 0 fun x =>
    { x with engines := x.engines.set 0 { x.engines[(0 : Fin 3)] with saved := some 0 } }

/-- The running command has an operand in die 1's window of die 0, whose link to it is down, and a host page. -/
def cutState : State :=
  withDie (withLive up 0 0 [{ command (cmd 0x15 0 []) .running with descs := [tensor 0x900000000000 2 [2, 1]] }]) 0 fun x =>
    { x with engines := x.engines.set 0 { x.engines[(0 : Fin 3)] with running := some 0 }, linkUp := x.linkUp.set (linkTo 0 1) false }

theorem wit_StepsEndAndPreempt :
    (let l := command (cmd 0x15 0 []) .running
     runningState.dies[(0 : Die)].power = 0 ∧ Engine.compute ≠ .panel ∧ engineOf 0 = .compute ∧
      runningState.runningAt 0 .compute = some (0, 0, l) ∧
      l.stall = 0 ∧ runningState.dies[(0 : Die)].msgs = [] ∧
      runningState.dies[(0 : Die)].queues[(0 : QIdx)].stale = false ∧ (∀ c : Die, runningState.sw.toPf[c] = []) ∧
      l.cancel = false ∧ runningState.fewestSteps 0 0 l ≤ l.steps + 1 ∧ runningState.mixed l.undo = false ∧
      isLocal 0x7FFFFFFF = true ∧ runningState.written 0 0x7FFFFFFF = true ∧ engineOf 0 ≠ .copy ∧
      (match runningState.routeFn (.die 0) (twinAllowed (.die 0) 0) 0x400000000000 with | .ok (.host h) => h == 0 | _ => false) = true) ∧
    (let l : Live := { command (cmd 0x15 0 []) .running with cancel := true }
     let s := withDie (withLive up 0 0 [l]) 0 fun x => { x with engines := x.engines.set 0 { x.engines[(0 : Fin 3)] with running := some 0 } }
     s.runningAt 0 .compute = some (0, 0, l) ∧ l.cancel = true) ∧
    (let l : Live := { command (cmd 0x15 0 []) .running with descs := [tensor 0x900000000000 2 [2, 1]] }
     cutState.runningAt 0 .compute = some (0, 0, l) ∧ cutState.cutOff 0 0 l (linkTo 0 1) ≠ [] ∧
       (∀ p ∈ cutState.cutOff 0 0 l (linkTo 0 1), ∀ i < p.2,
         (match cutState.routeFn (.die 0) (twinAllowed (.die 0) 0) (p.1 + i) with | .error _ => true | .ok _ => false) = true)) ∧
    (let s := withDie urgent 0 fun x => { x with engines := x.engines.set 0 { x.engines[(0 : Fin 3)] with boundary := true } }
     s.dieRuns 0 = true ∧ s.dies[(0 : Die)].engines[engineIdx .compute].running = some 0 ∧
      s.dies[(0 : Die)].engines[engineIdx .compute].saved = none ∧ s.dies[(0 : Die)].queues[(0 : QIdx)].cls ≠ 0 ∧
      s.urgentEligible 0 .compute = true ∧ s.dies[(0 : Die)].engines[engineIdx .compute].boundary = true ∧
      urgent.dies[(0 : Die)].engines[engineIdx .compute].boundary = false ∧
      urgent.dies[(0 : Die)].queues[(0 : QIdx)].live.any (fun l => decide (l.phase = .running ∧ l.stall = 1)) = false ∧
      runningState.urgentEligible 0 .compute = false) ∧
    (savedState.dieRuns 0 = true ∧ savedState.dies[(0 : Die)].engines[engineIdx .compute].saved = some 0 ∧
      savedState.dies[(0 : Die)].engines[engineIdx .compute].running = none ∧ savedState.urgentEligible 0 .compute = false) := by
  decide +kernel

/-- An ended command at the head of queue 3 of a function, with header bits and a status. -/
def endedLive (bits st : Nat) : Live := { command (cmd 0 bits []) .ended with status := st }

/-- A queue whose first command has ended; its completion ring stands in tier 0 of die 0 at 0x4000. -/
def endedState (fn : Fn) (bits st : Nat) : State :=
  up.modQueue fn 3 fun x => { x with state := 1, cplBase := 0x4000, tail := 1, live := [endedLive bits st] }

theorem wit_CommandsComplete :
    (∀ d : Die, (endedState (.die d) 0 0).completes (.die d) = true ∧
      ((endedState (.die d) 0 0).queue (.die d) 3).live = [endedLive 0 0] ∧ (endedLive 0 0).phase = .ended ∧
      ((endedState (.die d) 0 0).queue (.die d) 3).state = 1 ∧ (endedState (.die d) 0 0).dies[d].page.deferred = [] ∧
      (∀ e : Die, (endedState (.die d) 0 0).sw.toPf[e] = []) ∧ ((endedState (.die d) 0 0).queue (.die d) 3).full = false) ∧
    (((endedState (.die 0) 0x100 0).modQueue (.die 0) 3 fun x => { x with cplTail := 64 }).queue (.die 0) 3).full = true ∧
    ((endedState .pf 0 0).completes .pf = true ∧ ((endedState .pf 0 0).queue .pf 3).live = [endedLive 0 0] ∧
      ((endedState .pf 0 0).queue .pf 3).state = 1) ∧
    ((endedLive 0 0).status = stOk ∧ (header (endedLive 0 0).bytes).signalObj = 511 ∧
      (header (endedLive 0 0).bytes).checkpoint = false ∧ (header (endedLive 0 0).bytes).cpl = false ∧
      (header (endedLive 0 0).bytes).listEnd = false) ∧
    ((header (endedLive 0x100 0).bytes).cpl = true ∧ (header (endedLive 0x100 0).bytes).signalObj = 511 ∧
      (header (endedLive 0x100 0).bytes).checkpoint = false ∧
      (endedState (.die 0) 0x100 0).accessStatus (.die 0) false 0x4000 32 = stOk) ∧
    (stMemRange ≠ stOk ∧ stMemRange ≠ stStale ∧ stMemRange ≠ stCancelled ∧
      (endedState (.die 0) 0 stMemRange).accessStatus (.die 0) false 0x4000 32 = stOk) := by decide +kernel

theorem wit_CommandsComplete_record :
    (endedState (.die 0) 0x100 0).memoriesOk ∧
    (∀ i, i < 32 → ∃ y, (endedState (.die 0) 0x100 0).routeFn (.die 0) false (0x4000 + i) = .ok y ∧ ∀ o, y ≠ .pfRegs o) := by
  refine ⟨by unfold State.memoriesOk; decide +kernel, fun i hi => ?_⟩
  have h := oneRegion_of_check (s := endedState (.die 0) 0x100 0) (v := viewOf (.die 0) 3) (p := (0x4000, 32)) (by decide +kernel) i hi
  exact h.imp fun x hx => ⟨hx.1, hx.2.1⟩

theorem wit_WaitsSignalsAndWaiters :
    (let l : Live := { command (cmd 0 0 []) .waiting with marks := 5 }
     let s := up.modQueue (.die 0) 3 fun x => { x with state := 1, waitTimeout := 5, live := [l] }
     timedOut (.die 0) (s.queue (.die 0) 3).waitTimeout 0 true (s.queue (.die 0) 3).live = some 0) ∧
    (let l : Live := { command (cmd 0 0 []) .eligible with ageMarks := 4 }
     let s := withDie (withLive up 0 3 [l]) 0 fun x => { x with weirBlk := x.weirBlk.set 0 4 }
     s.dies[(0 : Die)].queues[(3 : QIdx)].eligibleAt = some (0, l) ∧ s.dies[(0 : Die)].queues[(3 : QIdx)].cls ≠ 0 ∧
       field s.dies[(0 : Die)].weirBlk[0] 7 0 = 4 ∧ ¬ l.ageMarks < 4) ∧
    (let s := withDie up 0 fun x => { x with sigOut := [(7, 5)] }
     s.dies[(0 : Die)].sigOut = [(7, 5)] ∧ s.dies[homeOf 7].power < 5 ∧
       (withDie s 3 fun x => { x with power := 5 }).dies[homeOf 7].power = 5) ∧
    (up.dies[homeOf (63 : Fin 64).val].power < 5 ∧ up.dies[(0 : Die)].power < 5 ∧ up.dies[(0 : Die)].seen.wf 0 = true ∧
      up.dies[homeOf (63 : Fin 64).val].linkUp[linkTo (homeOf (63 : Fin 64).val) 0] = true ∧ homeOf 63 = 3) ∧
    (up.reachable (.die 3) = true ∧ up.ownObj 3 255 = some 0 ∧ up.ownObj 3 319 = some 0 ∧ (0#64).toNat < (1#64).toNat) ∧
    (bitAt (0x80000000#32 ||| 319#32) 31 = true ∧ up.ownObj 3 (field (0x80000000#32 ||| 319#32) 8 0) = some 0 ∧
      (up.dies[(3 : Die)].waiters[(31 : Fin 32)]).value.toNat ≤ 0 ∧
      0 < ((withDie up 3 fun x => { x with waiters := x.waiters.set 31 { x.waiters[(31 : Fin 32)] with value := 1 } }).dies[(3 : Die)].waiters[(31 : Fin 32)]).value.toNat) := by
  decide +kernel

theorem wit_ReservedRegistersAndAllOrNothing :
    (ready.answers = true ∧ isReserved 0x1FF = true ∧ isReserved 0x000 = false ∧
      crc8 0 (requestBytes 0x0B 0x1FF []) = crcOf 0x0B 0x1FF [] ∧ ready.fld R.MG_STATE 2 0 ≠ 1 ∧
      (ready.setFld R.MG_STATE 2 0 1).answers = true ∧ (ready.setFld R.MG_STATE 2 0 1).fld R.MG_STATE 2 0 = 1) ∧
    ready.portOk ∧ (ready.setFld R.MG_STATE 2 0 1).portOk ∧
    (1 ≤ (64#8).toNat ∧ (64#8).toNat ≤ 64 ∧ (448#16).toNat + (64#8).toNat ≤ 512 ∧ isReserved (448 + 63) = true) ∧
    (ready.writeStatus (burstWords 0x1FE 1 [0, 0]) = pOk ∧ ready.writeStatus [(0x1FF, 0), (0x1FF, 0)] = pOk ∧
      isReserved 0x1FF = true) ∧
    (let s := ready.setFld R.MG_STATE 2 0 1
     512 < (0x1FF#16).toNat + (2#8).toNat ∧ s.writeStatus (burstWords 0 1 [0, 0]) ≠ pOk ∧
      (∃ w ∈ burstWords 0 1 [0#32, 0], s.writeStatus [w] ≠ pOk) ∧ 512 ≤ (0x200#16).toNat ∧ s.writeStatus [(0, 0)] ≠ pOk) := by
  refine ⟨by decide +kernel, by unfold State.portOk; decide +kernel, by unfold State.portOk; decide +kernel, by decide +kernel,
    by decide +kernel, by decide +kernel⟩

theorem wit_ResetCausesAreRecorded :
    10000 ≤ 10000 ∧ ready.pwr.stopped = false ∧
    (let s := (ready.putBit R.SUP_STATUS 1 true)
     s.monitorRuns = true ∧ s.bit R.SUP_STATUS 1 = true) ∧
    (let s := { ready with saf := { ready.saf with restart := 0x20 } }
     s.saf.restart ≠ 0 ∧ s.pwr.stopped = false ∧ s.saf.restart.testBit 5 = true ∧ s.saf.restart.testBit 3 = false) := by
  decide +kernel

theorem wit_BandWritesAreChecked :
    ready.prilRuns = true ∧ ready.bit R.CFG_STATUS 0 = false ∧ (ready.putBit R.CFG_STATUS 0 true).bit R.CFG_STATUS 0 = true ∧
    (let val := 0x80010001#32
     bitAt val 31 = true ∧ field val 25 16 ≤ field val 9 0) ∧
    (let s := withReg ready (R.PNL_BAND0 + 3) 0x80100008
     let val := 0x8010000F#32
     s.prilRuns = true ∧ bitAt val 31 = true ∧ 3 < 16 ∧ s.bit (R.PNL_BAND0 + 3) 31 = true ∧ s.fld (R.PNL_BAND0 + 3) 9 0 ≤ 15 ∧
       15 < s.fld (R.PNL_BAND0 + 3) 25 16 ∧ field val 9 0 ≤ 15 ∧ 15 < field val 25 16 ∧ s.bandAt 15 = some 3 ∧ s.bandAt 16 = none) ∧
    bitAt (0x00100008#32) 31 = false := by decide +kernel

/-! ### Well-formedness: one ill-formed command for each check -/

theorem test_wf_refuses_ill_formed : ∀ i ∈ ([
    .burstWrite 0 2 [0] 0, .fifoWrite 0 1 [] 0, .registerWrite .mgmt 512 0, .registerWrite (.bar0 .pf) 2 0,
    .bar0RcRead (.die 0) 3, .rasModeChange 3, .powerStateRequest 0 6 true, .powerStateReached 0 (.repairTier0 none 4),
    .powerStateReached 0 (.repairStaging 128 0), .powerStateReached 0 (.repairStaging 0 3), .powerStateReached 0 (.repairArray 128 0),
    .powerStateReached 0 (.repairArray 0 16), .powerStateReached 0 (.tier1Untrained 32), .thermalScan 0 0 [] [],
    .thermalScan 0 0 (List.replicate 64 0) [⟨16, false, 0⟩], .thermalScan 0 4 (List.replicate 9 0) [⟨8, false, 0⟩], .thmSample 0 [] [],
    .thmSample 0 (List.replicate 265 0) [(4, ⟨9, true, 0⟩)], .powerStateReached 0 (.pcieReduced 7 16),
    .powerStateReached 0 (.pcieReduced 6 2), .patrolScrub 0 false (2 ^ 28 + 1) .ok false, .bar2Read .pf 0 0 .none, .bar2Read .pf 0 8 (.arrayError 128 0), .bar2Write .pf 0 [] false,
    .pairPortRequest 0 (.read .none) 0 0 [], .pairPortRequest 0 .write 0 2 [0], .doorbell .pf 4 0 4, .doorbell (.die 0) 4 0 3,
    .commandFetch .pf 4 .none, .commandFetch .pf 0 (.arrayError 0 16), .enable .pf 4, .disable .pf 5, .resume .pf 6, .rebind .pf 7,
    .reset .pf 31, .queueConfigWrite .pf 4 0 0, .queueConfigWrite .pf 0 0x1C 0, .queueConfigWrite .pf 0 2 0, .cplHeadWrite .pf 4 0,
    .descriptorRead .pf ⟨4, .none⟩, .descriptorRead (.die 0) ⟨0, .stagingError 0 3⟩, .nop .pf 4, .executionStepEnd .pf .copy true .none, .executionStepEnd (.die 0) .panel true .none,
    .executionStepEnd (.die 0) .copy true (.arrayError 0 16), .commandComplete .pf 4 0 true, .preemption 0 .panel,
    .preemptRestore 0 .panel, .waitTimeout .pf 4, .hvFault 0 0 0, .beat 0 [], .sleepFrame 0 [], .wakeFrame 0 [], .unpairFrame 0 [],
    .imgOpen 2, .discardedFrame ⟨.badOpcode, [0x0B]⟩, .discardedFrame ⟨.badOpcode, []⟩, .discardedFrame ⟨.badLength, [0x77]⟩] : List Instr),
    i.wf = false := by decide +kernel

theorem test_wf_accepts : ∀ i ∈ ([
    .burstWrite 0 2 [0, 0] 0, .registerWrite .mgmt 511 0, .rasModeChange 2, .powerStateRequest 0 5 true,
    .powerStateReached 0 (.repairStaging 127 2), .thermalScan 0 4 (List.replicate 9 0) [⟨7, false, 0⟩],
    .patrolScrub 0 true 0 .ok false, .powerStateReached 0 (.pcieReduced 5 8), .pairPortRequest 0 (.read .none) 0 2 [], .doorbell .pf 3 0 8, .enable (.die 3) 31,
    .queueConfigWrite .pf 3 0x18 0, .executionStepEnd .pf .panel true .none, .hvFault 4 6 (-1), .imgOpen 1] : List Instr),
    i.wf = true := by decide +kernel

/-- No word of the table spells a command, for the table gives no row bits. -/
theorem test_no_word_is_a_command (n w : Nat) : decodeTableWord n w = none ∧ State.reset.withFetchWord n w = State.reset :=
  ⟨rfl, rfl⟩

/-! ### The spec's worked examples -/

/-- Management Port: the CRC of the READ request, of its response, and of the WRITE request. -/
theorem test_crc8_worked_example :
    crc8 0 [0x0B, 0x00, 0x20] = 0x0C#8 ∧ crc8 0x0C [0x00, 0x00, 0x00, 0x00, 0x80] = 0x1F#8 ∧
    crc8 0 [0x02, 0x00, 0x23, 0x00, 0x00, 0x00, 0x01] = 0x7C#8 ∧ crc8 0x7C [0x00] = 0x73#8 := by decide +kernel

/-- Panel Supplies: a VPOS fault on tray A is at 0x4800_0B03. -/
theorem test_rail_location : State.reset.railLoc 3 = 0x48000B03#32 := by decide +kernel

/-- The KV Cache: a recopied pinned page's entry and the shadow entry of page 1,329. -/
theorem test_page_entries :
    Pte.word { Pte.none with tier := 1, sealed := true, pinned := true, frame := 0x3A400000 } = 0x03A40025 ∧
    Pte.word { Pte.none with tier := 2, sealed := true, shadowed := true, frame := 0x001001F26000 } = 0x00000001001F260E := by
  decide +kernel

/-- The KV Cache: the page of the example is 24,576 bytes, a span of 6 units. -/
theorem test_page_span :
    (let q : Seq := { ptBase := 0, length := 49216, maxPages := 3076, order := 0, format := 0, heads := 3, dimCode := 1, flags := 1,
                      rank := 0, uk := 0xFFFF, uv := 0xFFFF, gridW := 60, gridH := 34, gCount := 256, shBase := 0, shPt := 0 }
     q.pageBytes false = 24576 ∧ q.span false = 6 ∧ q.pages = 3076 ∧ q.pteAddr 1329 = 0x2988) := by decide +kernel

/-- The panel of the examples: 3,840 x 720 at 85 Hz, SDCLK 40 MHz, line_pad 16, vblank 8. -/
def estuary : State :=
  ((State.reset.setReg R.PNL_SIZE (BitVec.ofNat 32 (3840 + 720 * 65536))).setReg R.HV_RES_CAP 470)

theorem test_scan_fits : estuary.scanFits = true := by decide +kernel

/-- Driving the Storyboard Panel: pixel P ends A's waveform and takes B's pending target, so its word becomes 0x1415_007C. -/
theorem test_pending_pixel :
    (let s := (estuary.setSlot 2 { Slot.free with granted := true, active := true, mode := 3, band := 5,
                                                            x := 960, y := 400, w := 480, h := 270, order := 1 }).setSlot 5
        { Slot.free with granted := true, active := true, mode := 3, band := 5, x := 960, y := 440, w := 480, h := 32, order := 2 }
     let s : State := { s with pnl := { s.pnl with wave := [(0x3F153C, 36)] } }
     (s.updateFrame (s.slotAt 2) (pixelKey 1000 450) 0x15F223C3#32).word = 0x1415007C#32) := by decide +kernel

/-- Driving the Storyboard Panel: the energy stop leaves 12 DARKEN frames of the residual phase. -/
theorem test_energy_stop_residual :
    (let s := estuary.setSlot 2 { Slot.free with granted := true, active := true, mode := 3, band := 5,
                                                            x := 960, y := 400, w := 480, h := 270 }
     let s : State := { s with pnl := { s.pnl with
       wave := (List.range 12).map (fun f => (0x30054F + 4096 * f, 2)) ++ [(0x3F153C, 36)] } }
     let w := s.stopPixel (pixelKey 1000 450) 0x141214C3#32
     pxPtgt w = 1 ∧ pxFi w = 12 ∧ pxCur w = 3 ∧ pxTgt w = 3 ∧ pxDcb w = 1) := by decide +kernel

/-- Panel Supplies: the trip card needs 797.54 mJ, which 4.7 mF covers and 1 mF does not. -/
theorem test_trip_card_energy :
    (let s := ((estuary.putBit R.SUP_STATUS 5 true).setReg R.PNL_TEMP (BitVec.ofNat 32 (5 * 1024 + 0x4000)))
     let s : State := { s with
       pnl := { s.pnl with wave := [(0x2F1400, 12), (0x5F1400, 20)] },
       hv := { s.hv with emodel := (s.hv.emodel.set 37 (BitVec.ofNat 32 (300 + 100 * 65536))).set 85 (BitVec.ofNat 32 (300 + 100 * 65536)) },
       sup := { s.sup with vres := List.replicate 16 2400 } }
     let need := s.needOf s.cardRequest
     need / 85 / 10000000 = 79754 ∧ s.covers need = true ∧ (s.setReg R.HV_RES_CAP 100).covers need = false) := by decide +kernel

/-- Q_HEAD passing a doorbell's tail forgets it: the next command belongs to the second doorbell (R200). -/
theorem test_bell_of_next_command :
    (let q : Queue := { Queue.reset with state := 1, head := 2, tail := 5, next := 3, bells := [(3, 7), (5, 9)] }
     (q.bellOf 2, (q.consume (command [] .ended |> fun l => { l with pos := 2 })).bellOf 3) = (7, 9)) := by decide +kernel

/-- ENABLE of a queue that went stale before its DISABLE clears its CMD_QSTALE bit (R187). -/
theorem test_enable_clears_stale :
    (let s := (State.reset.setQstale 1 3 true).enableQueue (.die 1) 3
     bitAt s.dies[(1 : Die)].cmdBlk[13] 3 = false ∧ (s.queue (.die 1) 3).state = 1) := by decide +kernel

end Sys2Proof.Tests
end

section
/-!
PROOFS. The management port's frames (R72-R81): what a refused frame changes, what an accepted write frame leaves in the
pending-write queue, what reads of reserved registers answer; and O58, R76 stated whole.
-/
namespace Sys2Proof.Machine

open Sys2Proof

/-! ### The map (R78, R93) -/

/-- The registers marked I in the index (R78). -/
def immediateRegs : List Nat :=
  [R.MG_SCRATCH, R.MG_IMG_CTRL, R.MG_IMG_ADDR, R.MG_IMG_DATA, R.THM_CH_SEL, R.HV_EMODEL_SEL, R.LOG_SEL]

theorem addr_mem_immediateRegs : ∀ r ∈ regMap, r.imm = true → r.addr ∈ immediateRegs := by decide +kernel

theorem mem_immediateRegs_of_isImmediate {a : Nat} (h : isImmediate a = true) : a ∈ immediateRegs := by
  unfold isImmediate at h
  split at h
  next r hr =>
    have haddr : r.addr = a := by simpa using List.find?_some hr
    exact haddr ▸ addr_mem_immediateRegs r (List.mem_of_find?_eq_some hr) h
  next => cases h

theorem isLockable_of_isReserved {a : Nat} (h : isReserved a = true) : isLockable a = false := by
  unfold isReserved at h
  rw [isLockable, Option.isNone_iff_eq_none.mp h]

theorem isImageReg_of_isReserved {a : Nat} (h : isReserved a = true) : isImageReg a = false := by
  have hctrl : isReserved R.MG_IMG_CTRL = false := by decide +kernel
  have haddr : isReserved R.MG_IMG_ADDR = false := by decide +kernel
  have hdata : isReserved R.MG_IMG_DATA = false := by decide +kernel
  refine decide_eq_false ?_
  rintro (rfl | rfl | rfl) <;> simp_all

theorem takesEntry_of_isReserved {a : Nat} (h : isReserved a = true) : takesEntry a = false := by
  simp [takesEntry, h]

/-! ### A response counted and driven (R72, R73, R75) -/

theorem State.alert_ALERT_PORT (s : State) (i : Nat) : s.alert R.ALERT_PORT i = s.putBit R.ALERT_PORT i true := rfl

theorem State.countStatus_crcErr (s : State) :
    s.countStatus pCrcErr = (s.bumpSat R.MG_PORT_ERR 7 0 1).putBit R.ALERT_PORT 0 true := rfl

theorem State.countStatus_reject (s : State) {st : Nat} (hok : st ≠ pOk) (hcrc : st ≠ pCrcErr) :
    s.countStatus st = (s.bumpSat R.MG_PORT_ERR 31 24 1).putBit R.ALERT_PORT 2 true := by
  rw [State.countStatus, if_neg hok, if_neg hcrc, State.alert_ALERT_PORT]

/-- A counting field saturates at its greatest value. -/
theorem State.fld_bumpSat_same (s : State) (a hi lo n : Nat) (ha : a < 512) (hi32 : hi < 32) :
    (s.bumpSat a hi lo n).fld a hi lo = satAt (2 ^ (hi + 1 - lo) - 1) (s.fld a hi lo + n) := by
  rw [State.bumpSat, fld_setFld_same _ _ _ _ _ ha hi32]
  apply Nat.mod_eq_of_lt
  have := Nat.two_pow_pos (hi + 1 - lo)
  unfold satAt
  split <;> omega

/-- An error field of MG_PORT_ERR raised and bit i of ALERT_PORT set: what they then hold. -/
theorem State.bumpSat_putBit_counted (s : State) {hi lo i : Nat} (hhi : hi < 32) (hi32 : i < 32) :
    ((s.bumpSat R.MG_PORT_ERR hi lo 1).putBit R.ALERT_PORT i true).fld R.MG_PORT_ERR hi lo =
        satAt (2 ^ (hi + 1 - lo) - 1) (s.fld R.MG_PORT_ERR hi lo + 1) ∧
      ((s.bumpSat R.MG_PORT_ERR hi lo 1).putBit R.ALERT_PORT i true).bit R.ALERT_PORT i = true := by
  constructor
  · rw [fld_putBit_other _ _ _ _ _ _ _ (Or.inl (by decide)), s.fld_bumpSat_same _ _ _ _ (by decide) hhi]
  · simp [bit_putBit _ _ _ _ _ _ (show R.ALERT_PORT < 512 by decide) hi32]

theorem State.reg_bumpSat_putBit_other (s : State) (hi lo i : Nat) {b : Nat} (hb : b ∉ [R.MG_PORT_ERR, R.ALERT_PORT]) :
    ((s.bumpSat R.MG_PORT_ERR hi lo 1).putBit R.ALERT_PORT i true).reg b = s.reg b := by
  obtain ⟨herr, halert⟩ : b ≠ R.MG_PORT_ERR ∧ b ≠ R.ALERT_PORT := by simpa using hb
  exact (reg_putBit_other _ _ _ _ _ halert).trans (reg_setFld_other _ _ _ _ _ _ herr)

/-- The error field and the alert bit that count a status other than OK (R75). -/
theorem State.countStatus_counted (s : State) {st : Nat} (hok : st ≠ pOk) :
    if st = pCrcErr then
      (s.countStatus st).fld R.MG_PORT_ERR 7 0 = satAt 255 (s.fld R.MG_PORT_ERR 7 0 + 1) ∧
        (s.countStatus st).bit R.ALERT_PORT 0 = true
    else
      (s.countStatus st).fld R.MG_PORT_ERR 31 24 = satAt 255 (s.fld R.MG_PORT_ERR 31 24 + 1) ∧
        (s.countStatus st).bit R.ALERT_PORT 2 = true := by
  split
  next hcrc =>
    rw [hcrc, s.countStatus_crcErr]
    exact s.bumpSat_putBit_counted (hi := 7) (lo := 0) (by decide) (by decide)
  next hcrc =>
    rw [s.countStatus_reject hok hcrc]
    exact s.bumpSat_putBit_counted (hi := 31) (lo := 24) (by decide) (by decide)

theorem State.countStatus_reg_other (s : State) (st : Nat) {b : Nat} (hb : b ∉ [R.MG_PORT_ERR, R.ALERT_PORT]) :
    (s.countStatus st).reg b = s.reg b := by
  by_cases hok : st = pOk
  · rw [hok]; rfl
  by_cases hcrc : st = pCrcErr
  · rw [hcrc, s.countStatus_crcErr]
    exact s.reg_bumpSat_putBit_other _ _ _ hb
  · rw [s.countStatus_reject hok hcrc]
    exact s.reg_bumpSat_putBit_other _ _ _ hb

theorem State.countStatus_regsOnly (s : State) (st : Nat) : s.countStatus st = { s with regs := (s.countStatus st).regs } := by
  unfold State.countStatus
  split_ifs <;> rfl

/-- A frame answered with a status other than OK is a refused frame (R73, R75). -/
theorem State.refusedFrame_countStatus (s : State) {st : Nat} (hok : st ≠ pOk) (reqLen : Nat) (body : List Byte) (crc : Byte) :
    s.refusedFrame (((s.countStatus st).noteStatus st).drive reqLen (responseBytes st body crc)) st reqLen body crc := by
  have hport : (s.countStatus st).port = s.port := by rw [s.countStatus_regsOnly]
  have hreg : ∀ b, b ≠ R.MG_PORT_STAT →
      (((s.countStatus st).noteStatus st).drive reqLen (responseBytes st body crc)).reg b = (s.countStatus st).reg b :=
    fun b hb => reg_setFld_other _ _ _ _ _ _ hb
  refine ⟨?_, ?_, fun b hb => ?_, ?_⟩
  · simp [State.drive, State.noteStatus, hport]
  · simp only [State.fld, State.bit, hreg R.MG_PORT_ERR (by decide), hreg R.ALERT_PORT (by decide)]
    exact s.countStatus_counted hok
  · obtain ⟨hstat, hb⟩ := not_or.mp (List.mem_cons.not.mp hb)
    exact (hreg b hstat).trans (s.countStatus_reg_other st hb)
  · rw [s.countStatus_regsOnly]
    rfl

/-! ### A write frame: refused, or accepted word by word (R73, R76, R77) -/

/-- The status of a write frame: that of its CRC, length and addresses, then that of its words (R73). -/
def State.frameStatus (s : State) (crcOk : Bool) (a n span : Nat) (ws : List (Nat × Word)) : Nat :=
  if addrStatus crcOk a n span = pOk then s.writeStatus ws else addrStatus crcOk a n span

theorem State.writeFrame_accepted (s : State) {crcOk : Bool} {a n span : Nat} {ws : List (Nat × Word)} (reqLen : Nat) (crc : Byte)
    (h : s.frameStatus crcOk a n span ws = pOk) :
    s.writeFrame crcOk a n span ws reqLen crc =
      ((ws.foldl (fun t w => t.acceptWord w.1 w.2) (s.bumpWrap R.MG_PORT_STAT 15 0)).noteStatus pOk).drive reqLen
        (responseBytes pOk [] crc) := by
  unfold State.frameStatus at h
  simp only [State.writeFrame, h, if_true]

theorem State.writeFrame_refused (s : State) {crcOk : Bool} {a n span : Nat} {ws : List (Nat × Word)} (reqLen : Nat) (crc : Byte)
    (h : s.frameStatus crcOk a n span ws ≠ pOk) :
    s.refusedFrame (s.writeFrame crcOk a n span ws reqLen crc) (s.frameStatus crcOk a n span ws) reqLen [] crc := by
  have heq : s.writeFrame crcOk a n span ws reqLen crc =
      ((s.countStatus (s.frameStatus crcOk a n span ws)).noteStatus (s.frameStatus crcOk a n span ws)).drive reqLen
        (responseBytes (s.frameStatus crcOk a n span ws) [] crc) := by
    unfold State.frameStatus at h
    simp only [State.writeFrame, State.frameStatus, h, if_false]
  exact heq ▸ s.refusedFrame_countStatus h reqLen [] crc

theorem addrStatus_eq_pOk_iff {crcOk : Bool} {a n span : Nat} :
    addrStatus crcOk a n span = pOk ↔ crcOk = true ∧ 1 ≤ n ∧ n ≤ 64 ∧ a + span ≤ 512 := by
  cases crcOk with
  | false => simp [addrStatus]
  | true => grind [addrStatus]

theorem State.frameStatus_eq_pOk_iff (s : State) {crcOk : Bool} {a n span : Nat} {ws : List (Nat × Word)} :
    s.frameStatus crcOk a n span ws = pOk ↔
      (crcOk = true ∧ 1 ≤ n ∧ n ≤ 64 ∧ a + span ≤ 512) ∧ s.writeStatus ws = pOk := by
  rw [← addrStatus_eq_pOk_iff, State.frameStatus]
  split <;> simp_all

/-- The words of a write frame draw OK: RECOVERY permits them, none is locked, and the queue has room (R73). -/
theorem State.writeStatus_eq_pOk_iff (s : State) (ws : List (Nat × Word)) :
    s.writeStatus ws = pOk ↔
      (s.fld R.MG_STATE 2 0 = 1 → ∀ w ∈ ws, isImageReg w.1 = true) ∧
      ((s.bit R.CFG_STATUS 0 ∨ s.bit R.CFG_STATUS 2) → ∀ w ∈ ws, isLockable w.1 = false) ∧
      s.port.queue.length + (ws.filter fun w => takesEntry w.1).length ≤ 64 := by
  unfold State.writeStatus
  split
  next hrec => simp_all
  next hrec =>
    split
    next hlock => simp_all
    next hlock =>
      have hrec' : s.fld R.MG_STATE 2 0 = 1 → ∀ w ∈ ws, isImageReg w.1 = true := by simpa using hrec
      have hlock' : (s.bit R.CFG_STATUS 0 ∨ s.bit R.CFG_STATUS 2) → ∀ w ∈ ws, isLockable w.1 = false := by simpa using hlock
      split
      next hfull => exact iff_of_false (by decide) fun ⟨_, _, hroom⟩ => absurd hfull (Nat.not_lt.mpr hroom)
      next hroom => exact iff_of_true rfl ⟨hrec', hlock', Nat.not_lt.mp hroom⟩

/-- All or nothing: each word of a frame that draws OK draws OK by itself (R76). -/
theorem State.writeStatus_of_mem (s : State) {ws : List (Nat × Word)} {w : Nat × Word} (h : s.writeStatus ws = pOk) (hw : w ∈ ws) :
    s.writeStatus [w] = pOk := by
  obtain ⟨hrec, hlock, hroom⟩ := (s.writeStatus_eq_pOk_iff ws).mp h
  have hlen := ((List.singleton_sublist.mpr hw).filter fun w => takesEntry w.1).length_le
  exact (s.writeStatus_eq_pOk_iff [w]).mpr
    ⟨by simpa using fun hs => hrec hs w hw, by simpa using fun hs => hlock (by simpa using hs) w hw, by omega⟩

theorem burstWords_zero (a : Nat) (data : List Word) : burstWords a 0 data = data.map fun w => (a, w) := by
  induction data with
  | nil => rfl
  | cons w ws ih => simp [burstWords, ih]

/-! ### An accepted word and the pending-write queue (R77, R78) -/

theorem State.imgCtrl_port (s : State) (val : Word) : (s.imgCtrl val).port = s.port := by
  simp only [State.imgCtrl, State.openImage, State.verifyImage, State.abortImage, State.setImg]
  split_ifs <;> rfl

theorem State.imageWord_port (s : State) (w : Word) : (s.imageWord w).port = s.port := by
  unfold State.imageWord
  split <;> rfl

theorem State.fillWindow_port (s : State) (i n : Nat) : (s.fillWindow i n).port = s.port := by
  induction n with
  | zero => rfl
  | succ n ih => simpa [State.fillWindow] using ih

theorem State.selectLog_port (s : State) (i : Nat) (slotBusy : Bool) : (s.selectLog i slotBusy).port = s.port := by
  unfold State.selectLog State.captureLog
  split <;> simp [State.fillWindow_port]

theorem State.frameSelectLog_port (s : State) (i : Nat) : (s.frameSelectLog i).port = s.port := by
  unfold State.frameSelectLog
  split
  · exact State.selectLog_port ..
  · exact s.selectLog_port i false

theorem State.writeMasked_port (s : State) (a : Nat) (val : Word) : (s.writeMasked a val).port = s.port := by
  unfold State.writeMasked
  split <;> rfl

theorem State.writeOneClear_port (s : State) (a : Nat) (val : Word) : (s.writeOneClear a val).port = s.port := by
  unfold State.writeOneClear
  split <;> rfl

theorem State.noteDirty_port (s old : State) (a : Nat) : (s.noteDirty old a).port = s.port := by
  unfold State.noteDirty
  split
  · split <;> simp
  · rfl

/-- The immediate registers without an operation of their own follow their access codes (R6). -/
theorem State.writeEffect_of_plain (s : State) {a : Nat} (val : Word) (stopOk : Die → Bool)
    (h : a ∈ [R.MG_SCRATCH, R.MG_IMG_ADDR, R.THM_CH_SEL, R.HV_EMODEL_SEL]) :
    s.writeEffect a val stopOk = (s.writeMasked a val).writeOneClear a val := by
  simp only [List.mem_cons, List.not_mem_nil, or_false] at h
  rcases h with rfl | rfl | rfl | rfl <;> rfl

theorem State.writeEffect_port_of_mem_immediateRegs (s : State) {a : Nat} (val : Word) (stopOk : Die → Bool)
    (h : a ∈ immediateRegs) : (s.writeEffect a val stopOk).port = s.port := by
  by_cases hplain : a ∈ [R.MG_SCRATCH, R.MG_IMG_ADDR, R.THM_CH_SEL, R.HV_EMODEL_SEL]
  · rw [s.writeEffect_of_plain val stopOk hplain, State.writeOneClear_port, State.writeMasked_port]
  · have hown : a = R.MG_IMG_CTRL ∨ a = R.MG_IMG_DATA ∨ a = R.LOG_SEL := by
      simp only [immediateRegs, List.mem_cons, List.not_mem_nil, or_false] at h hplain
      omega
    rcases hown with rfl | rfl | rfl
    · exact s.imgCtrl_port val
    · exact s.imageWord_port val
    · exact s.frameSelectLog_port _

/-- An immediate register's write leaves the port, and so the queue, as it is (R78). -/
theorem State.applyWrite_port_of_isImmediate (s : State) {a : Nat} (val : Word) (stopOk : Die → Bool) (h : isImmediate a = true) :
    (s.applyWrite a val stopOk).port = s.port := by
  unfold State.applyWrite
  split
  · rfl
  · rw [State.noteDirty_port, s.writeEffect_port_of_mem_immediateRegs val stopOk (mem_immediateRegs_of_isImmediate h)]

theorem State.acceptWord_of_isReserved (s : State) {a : Nat} (val : Word) (h : isReserved a = true) : s.acceptWord a val = s := by
  simp [State.acceptWord, h]

/-- A word joins the queue if it takes an entry, and else leaves the queue as it is (R77). -/
theorem State.acceptWord_queue (s : State) (a : Nat) (val : Word) :
    (s.acceptWord a val).port.queue = s.port.queue ++ if takesEntry a then [(a, val)] else [] := by
  cases hres : isReserved a
  · cases himm : isImmediate a
    · have : (s.acceptWord a val).port.queue = s.port.queue ++ [(a, val)] := by
        unfold State.acceptWord
        simp only [hres, himm, Bool.false_eq_true, if_false]
        split <;> simp [State.acceptLock]
      simp [this, takesEntry, hres, himm]
    · have : s.acceptWord a val = s.applyWrite a val fun _ => true := by simp [State.acceptWord, hres, himm]
      rw [this, s.applyWrite_port_of_isImmediate val _ himm]
      simp [takesEntry, himm]
  · simp [s.acceptWord_of_isReserved val hres, takesEntry_of_isReserved hres]

theorem State.foldl_acceptWord_queue (s : State) (ws : List (Nat × Word)) :
    (ws.foldl (fun t w => t.acceptWord w.1 w.2) s).port.queue = s.port.queue ++ ws.filter fun w => takesEntry w.1 := by
  induction ws generalizing s with
  | nil => simp
  | cons w ws ih =>
    rw [List.foldl_cons, ih, State.acceptWord_queue, List.filter_cons]
    split <;> simp

theorem State.foldl_acceptWord_of_isReserved (s : State) {ws : List (Nat × Word)} (h : ∀ w ∈ ws, isReserved w.1 = true) :
    ws.foldl (fun t w => t.acceptWord w.1 w.2) s = s := by
  induction ws with
  | nil => rfl
  | cons w ws ih =>
    rw [List.foldl_cons, s.acceptWord_of_isReserved w.2 (h w List.mem_cons_self)]
    exact ih fun x hx => h x (List.mem_cons_of_mem w hx)

/-- An accepted frame's words join the queue in order, but for those that take no entry (R77). -/
theorem State.writeFrame_queue (s : State) {crcOk : Bool} {a n span : Nat} {ws : List (Nat × Word)} (reqLen : Nat) (crc : Byte)
    (h : s.frameStatus crcOk a n span ws = pOk) :
    (s.writeFrame crcOk a n span ws reqLen crc).port.queue = s.port.queue ++ ws.filter fun w => takesEntry w.1 := by
  rw [s.writeFrame_accepted reqLen crc h, State.drive_queue, State.noteStatus, State.setFld_port, State.foldl_acceptWord_queue,
    State.bumpWrap_port]

/-- A frame whose words are all for reserved addresses is accepted and ignored (R76). -/
theorem State.goodWrite_of_isReserved (s : State) {crcOk : Bool} {a n span : Nat} {ws : List (Nat × Word)} (reqLen : Nat) (crc : Byte)
    (h : s.frameStatus crcOk a n span ws = pOk) (hres : ∀ w ∈ ws, isReserved w.1 = true) :
    s.goodWrite (s.writeFrame crcOk a n span ws reqLen crc) [] reqLen crc := by
  rw [s.writeFrame_accepted reqLen crc h, State.foldl_acceptWord_of_isReserved _ hres]
  refine ⟨by simp [State.drive, State.noteStatus], ?_, ?_, fun b hb => ?_, rfl⟩
  · exact fld_setFld_same _ _ _ _ _ (by decide) (by decide)
  · calc (((s.bumpWrap R.MG_PORT_STAT 15 0).noteStatus pOk).drive reqLen _).fld R.MG_PORT_STAT 15 0
        = (s.bumpWrap R.MG_PORT_STAT 15 0).fld R.MG_PORT_STAT 15 0 :=
          fld_setFld_other _ _ _ _ _ _ _ _ (Or.inr (Or.inl (by decide)))
      _ = (s.fld R.MG_PORT_STAT 15 0 + 1) % 65536 := fld_setFld_same _ _ _ _ _ (by decide) (by decide)
  · exact (reg_setFld_other _ _ _ _ _ _ hb).trans (reg_setFld_other _ _ _ _ _ _ hb)

/-! ### Reads of reserved registers (R76, R79) -/

theorem State.mgmtRead_of_isReserved (s : State) {a : Nat} (h : isReserved a = true) : s.mgmtRead a = 0 := by
  rw [State.mgmtRead, if_pos h]

theorem State.readRegs_length (s : State) (a n : Nat) : (s.readRegs a n).1.length = n := by
  induction n generalizing s a with
  | zero => rfl
  | succ n ih => simp [State.readRegs, ih]

theorem State.readRegs_of_isReserved (s : State) {a n i : Nat} (hi : i < n) (h : isReserved (a + i) = true) :
    (s.readRegs a n).1[i]? = some 0#32 := by
  induction n generalizing s a i with
  | zero => omega
  | succ n ih =>
    cases i with
    | zero => simpa [State.readRegs, State.readReg] using s.mgmtRead_of_isReserved h
    | succ i =>
      have h' : isReserved (a + 1 + i) = true := by rwa [Nat.add_assoc, Nat.add_comm 1 i]
      simpa [State.readRegs] using ih _ (by omega : i < n) h'

theorem State.readFrame_held (s : State) {crcOk : Bool} {a n : Nat} (reqLen : Nat) (crc : Byte) (h : addrStatus crcOk a n n = pOk) :
    (s.readFrame crcOk a n reqLen crc).port.held = some (s.readRegs a n).1 := by
  simp only [State.readFrame, h, if_true]
  rfl

theorem State.readFrame_miso (s : State) {crcOk : Bool} {a n : Nat} (reqLen : Nat) (crc : Byte) (h : addrStatus crcOk a n n = pOk) :
    (s.readFrame crcOk a n reqLen crc).port.miso =
      List.replicate (reqLen + 1) 0 ++ responseBytes pOk (wordBytes (s.readRegs a n).1) crc := by
  simp only [State.readFrame, h, if_true]
  rfl

/-! ### The frames of the port as commands -/

section
variable (s : State) (hans : s.answers = true) (addr : BitVec 16) (n : Byte) (data : List Word) (crc : Byte)
include hans

theorem exec_read : exec (.read addr crc) s =
    .next (s.readFrame (decide (crc8 0 (requestBytes 0x0B addr []) = crc)) addr.toNat 1 4 crc) := by
  simp [exec, execRead, hans]

theorem exec_burstRead : exec (.burstRead addr n crc) s =
    .next (s.readFrame (decide (crc8 0 (requestBytes 0x0C addr [n]) = crc)) addr.toNat n.toNat 5 crc) := by
  simp [exec, execBurstRead, hans]

theorem exec_write (val : Word) : exec (.write addr val crc) s =
    .next (s.writeFrame (decide (crc8 0 (requestBytes 0x02 addr (beBytes 4 val.toNat)) = crc)) addr.toNat 1 1
      [(addr.toNat, val)] 8 crc) := by
  simp [exec, execWrite, hans]

theorem exec_burstWrite (hlen : data.length = n.toNat) : exec (.burstWrite addr n data crc) s =
    .next (s.writeFrame (decide (crc8 0 (requestBytes 0x0D addr (n :: wordBytes data)) = crc)) addr.toNat n.toNat n.toNat
      (burstWords addr.toNat 1 data) (5 + 4 * n.toNat) crc) := by
  simp [exec, execBurstWrite, hans, hlen]

theorem exec_fifoWrite (hlen : data.length = n.toNat) : exec (.fifoWrite addr n data crc) s =
    .next (s.writeFrame (decide (crc8 0 (requestBytes 0x0F addr (n :: wordBytes data)) = crc)) addr.toNat n.toNat 1
      (data.map fun w => (addr.toNat, w)) (5 + 4 * n.toNat) crc) := by
  simp [exec, execFifoWrite, hans, hlen, burstWords_zero]

end

/-! ### The four parts of R76 -/

/-- Reads of one reserved register. -/
theorem exec_read_of_isReserved (s : State) (addr : BitVec 16) (crc : Byte) (hans : s.answers = true) (haddr : addr.toNat < 512)
    (hres : isReserved addr.toNat = true) (hcrc : crc8 0 (requestBytes 0x0B addr []) = crc) :
    ∃ t, exec (.read addr crc) s = .next t ∧ t.port.held = some [0#32] ∧
      t.port.miso = List.replicate 5 0 ++ responseBytes pOk (wordBytes [0#32]) crc := by
  have hst : addrStatus (decide (crc8 0 (requestBytes 0x0B addr []) = crc)) addr.toNat 1 1 = pOk :=
    addrStatus_eq_pOk_iff.mpr ⟨decide_eq_true hcrc, by decide, by decide, haddr⟩
  have hword : (s.readRegs addr.toNat 1).1 = [0#32] := congrArg (fun w => [w]) (s.mgmtRead_of_isReserved hres)
  exact ⟨_, exec_read s hans addr crc, by rw [s.readFrame_held 4 crc hst, hword], by rw [s.readFrame_miso 4 crc hst, hword]⟩

/-- A write of one reserved register is ignored with OK, outside RECOVERY. -/
theorem exec_write_of_isReserved (s : State) (addr : BitVec 16) (data : Word) (crc : Byte) (hans : s.answers = true)
    (hport : s.portOk) (haddr : addr.toNat < 512) (hres : isReserved addr.toNat = true)
    (hcrc : crc8 0 (requestBytes 0x02 addr (beBytes 4 data.toNat)) = crc) (hstate : s.fld R.MG_STATE 2 0 ≠ 1) :
    ∃ t, exec (.write addr data crc) s = .next t ∧ s.goodWrite t [] 8 crc := by
  obtain ⟨hqueue, -⟩ := hport
  have hws : s.writeStatus [(addr.toNat, data)] = pOk := by
    rw [State.writeStatus_eq_pOk_iff]
    simp [hstate, isLockable_of_isReserved hres, takesEntry_of_isReserved hres, hqueue]
  exact ⟨_, exec_write s hans addr crc data, s.goodWrite_of_isReserved 8 crc
    (s.frameStatus_eq_pOk_iff.mpr ⟨⟨decide_eq_true hcrc, by decide, by decide, haddr⟩, hws⟩) (by simpa using hres)⟩

/-- RECOVERY answers a write of one reserved register RECOVERY (R73). -/
theorem exec_write_of_isReserved_recovery (s : State) (addr : BitVec 16) (data : Word) (crc : Byte) (hans : s.answers = true)
    (haddr : addr.toNat < 512) (hres : isReserved addr.toNat = true)
    (hcrc : crc8 0 (requestBytes 0x02 addr (beBytes 4 data.toNat)) = crc) (hstate : s.fld R.MG_STATE 2 0 = 1) :
    ∃ t, exec (.write addr data crc) s = .next t ∧ s.refusedFrame t pRecovery 8 [] crc := by
  have hst : s.frameStatus (decide (crc8 0 (requestBytes 0x02 addr (beBytes 4 data.toNat)) = crc)) addr.toNat 1 1
      [(addr.toNat, data)] = pRecovery := by
    rw [State.frameStatus, if_pos (addrStatus_eq_pOk_iff.mpr ⟨decide_eq_true hcrc, by decide, by decide, haddr⟩)]
    simp [State.writeStatus, hstate, isImageReg_of_isReserved hres]
  have href := s.writeFrame_refused 8 crc (hst ▸ (by decide : pRecovery ≠ pOk))
  exact ⟨_, exec_write s hans addr crc data, hst ▸ href⟩

/-- A burst read answers OK, with zero for each reserved register in it. -/
theorem exec_burstRead_of_isReserved (s : State) (addr : BitVec 16) (n crc : Byte) (hans : s.answers = true) (hn : 1 ≤ n.toNat)
    (hn64 : n.toNat ≤ 64) (haddr : addr.toNat + n.toNat ≤ 512) (hcrc : crc8 0 (requestBytes 0x0C addr [n]) = crc) :
    ∃ t ws, exec (.burstRead addr n crc) s = .next t ∧ t.port.held = some ws ∧ ws.length = n.toNat ∧
      t.port.miso = List.replicate 6 0 ++ responseBytes pOk (wordBytes ws) crc ∧
      ∀ i, i < n.toNat → isReserved (addr.toNat + i) = true → ws[i]? = some 0#32 := by
  have hst := addrStatus_eq_pOk_iff.mpr ⟨decide_eq_true hcrc, hn, hn64, haddr⟩
  exact ⟨_, _, exec_burstRead s hans addr n crc, s.readFrame_held 5 crc hst, s.readRegs_length _ _, s.readFrame_miso 5 crc hst,
    fun i hi hres => s.readRegs_of_isReserved hi hres⟩

/-- All or nothing (R76): a write frame beyond the map, or with a word that draws another status than OK, is refused whole. -/
theorem State.writeFrame_allOrNothing (s : State) (crcOk : Bool) (a n span : Nat) (ws : List (Nat × Word)) (reqLen : Nat) (crc : Byte)
    (h : 512 < a + span ∨ s.writeStatus ws ≠ pOk ∨ ∃ w ∈ ws, s.writeStatus [w] ≠ pOk) :
    s.frameStatus crcOk a n span ws ≠ pOk ∧
      s.refusedFrame (s.writeFrame crcOk a n span ws reqLen crc) (s.frameStatus crcOk a n span ws) reqLen [] crc := by
  have hst : s.frameStatus crcOk a n span ws ≠ pOk := by
    intro hok
    obtain ⟨⟨-, -, -, haddr⟩, hws⟩ := s.frameStatus_eq_pOk_iff.mp hok
    rcases h with hout | hne | ⟨w, hw, hne⟩
    · omega
    · exact hne hws
    · exact hne (s.writeStatus_of_mem hws hw)
  exact ⟨hst, s.writeFrame_refused reqLen crc hst⟩

/-- Settles O58: the reserved words of a frame take no entry and have no effect, and a frame's status is OK only where each of
its words draws OK by itself. -/
theorem reservedRegistersAndAllOrNothing : Obligations.ReservedRegistersAndAllOrNothing := by
  refine ⟨fun s addr data crc hans hport haddr hres => ⟨?_, fun hcrc => ⟨?_, ?_⟩⟩, ?_,
    fun s addr n data crc hans hlen hn hn64 => ⟨fun haddr hcrc hws => ?_, fun haddr hcrc hres hws => ?_⟩,
    fun s addr n data crc hans hlen => ⟨fun h => ?_, fun h => ?_⟩⟩
  · exact exec_read_of_isReserved s addr crc hans haddr hres
  · exact exec_write_of_isReserved s addr data crc hans hport haddr hres hcrc
  · exact exec_write_of_isReserved_recovery s addr data crc hans haddr hres hcrc
  · exact exec_burstRead_of_isReserved
  · have hst := s.frameStatus_eq_pOk_iff.mpr ⟨⟨decide_eq_true hcrc, hn, hn64, haddr⟩, hws⟩
    exact ⟨_, exec_burstWrite s hans addr n data crc hlen, s.writeFrame_queue _ crc hst⟩
  · have hst := (s.frameStatus_eq_pOk_iff (a := addr.toNat) (span := 1)).mpr ⟨⟨decide_eq_true hcrc, hn, hn64, haddr⟩, hws⟩
    exact ⟨_, exec_fifoWrite s hans addr n data crc hlen, s.goodWrite_of_isReserved _ crc hst (by simp [hres])⟩
  · exact ⟨_, _, exec_burstWrite s hans addr n data crc hlen, s.writeFrame_allOrNothing _ _ _ _ _ _ crc h⟩
  · have h' : 512 < addr.toNat + 1 ∨ s.writeStatus (data.map fun w => (addr.toNat, w)) ≠ pOk ∨
        ∃ w ∈ data.map fun w => (addr.toNat, w), s.writeStatus [w] ≠ pOk := by simpa [Nat.lt_succ_iff] using h
    exact ⟨_, _, exec_fifoWrite s hans addr n data crc hlen, s.writeFrame_allOrNothing _ _ _ _ _ _ crc h'⟩

end Sys2Proof.Machine
end

section
/-!
PROOFS. The temperature bands of the panel (R334): when a band write is refused, what a write of PNL_BANDb leaves through the write
command and after the lock, which codes a used band covers; and O60.
-/
namespace Sys2Proof.Machine

open Sys2Proof

/-! ### The write command in the management map (R6, R77, R89, R91) -/

theorem exec_registerWrite_mgmt (s : State) (a : Nat) (val : Word) (hruns : s.prilRuns = true) :
    exec (.registerWrite .mgmt a val) s =
      .next (s.draw.2.applyWrite a val fun d => decide (Config.freeAt s.draw.1 d.val % 2 = 0)) :=
  congrArg Host.Outcome.next (if_neg (by simp [hruns]))

theorem State.applyWrite_of_locked (s : State) {a : Nat} (val : Word) (stopOk : Die → Bool) (hlock : s.bit R.CFG_STATUS 0 = true)
    (ha : isLockable a = true) : s.applyWrite a val stopOk = s := by
  simp [State.applyWrite, hlock, ha]

theorem State.applyWrite_of_unlocked (s : State) (a : Nat) (val : Word) (stopOk : Die → Bool) (hlock : s.bit R.CFG_STATUS 0 = false) :
    s.applyWrite a val stopOk = (s.writeEffect a val stopOk).noteDirty s a := by
  simp [State.applyWrite, hlock]

/-- Noting a digest register's write changes CFG_STATUS at most (R91). -/
theorem State.noteDirty_regsOnly (s old : State) (a : Nat) : s.regsOnly (s.noteDirty old a) [R.CFG_STATUS] := by
  unfold State.noteDirty
  split
  · split
    · exact ⟨rfl, fun _ hc => reg_putBit_other _ _ _ _ _ (List.mem_singleton.not.mp hc)⟩
    · exact ⟨rfl, fun _ _ => rfl⟩
  · exact ⟨rfl, fun _ _ => rfl⟩

/-- A write that leaves its register's value does not make the configuration dirty (R91). -/
theorem State.noteDirty_of_reg_eq (s old : State) {a : Nat} (h : s.reg a = old.reg a) : s.noteDirty old a = s := by
  unfold State.noteDirty
  split <;> simp [h]

/-! ### A write of PNL_BANDb (R334) -/

theorem addr_PNL_BAND : ∀ b < 16,
    R.PNL_BAND0 + b < 512 ∧ R.PNL_BAND0 + b ∉ [R.PNL_ALERT] ∧ R.PNL_BAND0 + b ∉ [R.CFG_STATUS] := by decide

theorem isLockable_PNL_BAND : ∀ b < 16, isLockable (R.PNL_BAND0 + b) = true := by decide +kernel

/-- The address of PNL_BANDb carries a band write and no other register's operation. -/
theorem State.writeEffect_PNL_BAND (s : State) {b : Nat} (hb : b < 16) (val : Word) (stopOk : Die → Bool) :
    s.writeEffect (R.PNL_BAND0 + b) val stopOk = s.writeBand b val := by
  interval_cases b <;> rfl

/-- An alert of the panel sets its bit of PNL_ALERT and lets an event wait (R86, R425): it changes nothing else. -/
theorem State.alert_PNL_ALERT_bit_and_frame (s : State) {i : Nat} (hi : i < 32) :
    (s.alert R.PNL_ALERT i).bit R.PNL_ALERT i = true ∧ s.sameRegs (s.alert R.PNL_ALERT i) [R.PNL_ALERT] ∧
      s.alert R.PNL_ALERT i = { s with regs := (s.alert R.PNL_ALERT i).regs, pf := (s.alert R.PNL_ALERT i).pf } := by
  have hregs : (s.alert R.PNL_ALERT i).regs = (s.putBit R.PNL_ALERT i true).regs := rfl
  refine ⟨?_, fun c hc => ?_, rfl⟩
  · rw [State.bit, State.reg_congr _ _ hregs]
    exact (bit_putBit s _ _ i i true (by decide) hi).trans (if_pos ⟨rfl, rfl⟩)
  · rw [State.reg_congr _ _ hregs]
    exact reg_putBit_other _ _ _ _ _ (List.mem_singleton.not.mp hc)

/-- Used band c covers the code (R334). -/
def State.bandCovers (s : State) (c code : Nat) : Prop :=
  s.bit (R.PNL_BAND0 + c) 31 = true ∧ s.fld (R.PNL_BAND0 + c) 9 0 ≤ code ∧ code < s.fld (R.PNL_BAND0 + c) 25 16

/-- The value would make band b used with no code, or with a code in common with another used band (R334). -/
def State.bandValueBad (s : State) (b : Nat) (val : Word) : Prop :=
  bitAt val 31 = true ∧ (field val 25 16 ≤ field val 9 0 ∨
    ∃ c code, c < 16 ∧ c ≠ b ∧ s.bandCovers c code ∧ field val 9 0 ≤ code ∧ code < field val 25 16)

/-- The model's test on the limits of two bands says that they have a code in common. -/
theorem max_lt_min_iff_common_code {lo hi lo' hi' : Nat} :
    max lo lo' < min hi hi' ↔ ∃ code, (lo' ≤ code ∧ code < hi') ∧ lo ≤ code ∧ code < hi :=
  ⟨fun _ => ⟨max lo lo', by omega⟩, fun ⟨_, _, _⟩ => by omega⟩

theorem State.mem_bands (s : State) {c : Nat} : c ∈ s.bands ↔ c < 16 ∧ s.bandUsed c = true := by
  simp [State.bands]

/-- The test that writeBand makes is R334's. -/
theorem State.bandValueBad_iff (s : State) (b : Nat) (val : Word) :
    s.bandValueBad b val ↔ (bitAt val 31 && (decide (field val 25 16 ≤ field val 9 0) ||
      s.bands.any fun c => decide (c ≠ b) &&
        decide (max (field val 9 0) (s.bandLo c) < min (field val 25 16) (s.bandHi c)))) = true := by
  have hclash : (∃ c code, c < 16 ∧ c ≠ b ∧ s.bandCovers c code ∧ field val 9 0 ≤ code ∧ code < field val 25 16) ↔
      ∃ c ∈ s.bands, c ≠ b ∧ max (field val 9 0) (s.bandLo c) < min (field val 25 16) (s.bandHi c) := by
    refine exists_congr fun c => ?_
    rw [s.mem_bands, max_lt_min_iff_common_code]
    constructor
    · rintro ⟨code, hc, hne, ⟨hused, hcov⟩, hval⟩
      exact ⟨⟨hc, hused⟩, hne, code, hcov, hval⟩
    · rintro ⟨⟨hc, hused⟩, hne, code, hcov, hval⟩
      exact ⟨code, hc, hne, ⟨hused, hcov⟩, hval⟩
  rw [State.bandValueBad, hclash]
  simp only [Bool.and_eq_true, Bool.or_eq_true, List.any_eq_true, decide_eq_true_eq]

theorem State.writeBand_of_bad (s : State) {b : Nat} {val : Word} (h : s.bandValueBad b val) :
    s.writeBand b val = s.alert R.PNL_ALERT 8 :=
  if_pos ((s.bandValueBad_iff b val).mp h)

theorem State.writeBand_of_not_bad (s : State) {b : Nat} {val : Word} (h : ¬ s.bandValueBad b val) :
    s.writeBand b val = s.setReg (R.PNL_BAND0 + b) (val &&& 0x83FF03FF#32) :=
  if_neg ((s.bandValueBad_iff b val).not.mp h)

/-- A refused band write is an alert and no more: the band keeps its value, so the configuration is no dirtier (R334). -/
theorem State.applyWrite_PNL_BAND_of_bad (s : State) {b : Nat} {val : Word} (stopOk : Die → Bool) (hlock : s.bit R.CFG_STATUS 0 = false)
    (hb : b < 16) (h : s.bandValueBad b val) : s.applyWrite (R.PNL_BAND0 + b) val stopOk = s.alert R.PNL_ALERT 8 := by
  obtain ⟨-, hregs, -⟩ := s.alert_PNL_ALERT_bit_and_frame (i := 8) (by decide)
  obtain ⟨-, halert, -⟩ := addr_PNL_BAND b hb
  rw [s.applyWrite_of_unlocked _ _ _ hlock, s.writeEffect_PNL_BAND hb, s.writeBand_of_bad h,
    State.noteDirty_of_reg_eq _ _ (hregs _ halert)]

/-- A band write that is taken changes its register, to the value's defined bits, and CFG_STATUS at most (R91, R334). -/
theorem State.applyWrite_PNL_BAND_of_not_bad (s : State) {b : Nat} {val : Word} (stopOk : Die → Bool)
    (hlock : s.bit R.CFG_STATUS 0 = false) (hb : b < 16) (h : ¬ s.bandValueBad b val) :
    (s.applyWrite (R.PNL_BAND0 + b) val stopOk).reg (R.PNL_BAND0 + b) = val &&& 0x83FF03FF#32 ∧
      s.regsOnly (s.applyWrite (R.PNL_BAND0 + b) val stopOk) [R.PNL_BAND0 + b, R.CFG_STATUS] := by
  rw [s.applyWrite_of_unlocked _ _ _ hlock, s.writeEffect_PNL_BAND hb, s.writeBand_of_not_bad h]
  obtain ⟨hrest, hregs⟩ := (s.setReg (R.PNL_BAND0 + b) (val &&& 0x83FF03FF#32)).noteDirty_regsOnly s (R.PNL_BAND0 + b)
  obtain ⟨hmap, -, hcfg⟩ := addr_PNL_BAND b hb
  refine ⟨(hregs _ hcfg).trans (reg_setReg_same _ _ _ hmap), hrest, fun c hc => ?_⟩
  obtain ⟨hband, hstatus⟩ := not_or.mp (List.mem_cons.not.mp hc)
  exact (hregs c hstatus).trans (reg_setReg_other _ _ _ _ hband)

/-! ### The band of a code (R334) -/

theorem State.bandCovers_of_bandAt_eq_some (s : State) {code b : Nat} (h : s.bandAt code = some b) :
    b < 16 ∧ s.bandCovers b code := by
  obtain ⟨hb, hused⟩ := s.mem_bands.mp (List.mem_of_find?_eq_some h)
  have hcode := List.find?_some h
  rw [Bool.and_eq_true, decide_eq_true_eq, decide_eq_true_eq] at hcode
  exact ⟨hb, hused, hcode⟩

theorem State.not_bandCovers_of_bandAt_eq_none (s : State) {code b : Nat} (h : s.bandAt code = none) (hb : b < 16) :
    ¬ s.bandCovers b code := by
  rintro ⟨hused, hcode⟩
  refine List.find?_eq_none.mp h b (s.mem_bands.mpr ⟨hb, hused⟩) ?_
  rwa [Bool.and_eq_true, decide_eq_true_eq, decide_eq_true_eq]

/-- Settles O60: a band write is refused exactly where R334 says, is taken elsewhere, and is ignored after the lock; a code's band
is a used band that covers it, and a code has none only where no used band covers it. -/
theorem bandWritesAreChecked : Obligations.BandWritesAreChecked := by
  refine ⟨fun b val s hruns hlock hb => ⟨_, exec_registerWrite_mgmt s _ val hruns, fun hbad => ?_, fun hok => ?_⟩,
    fun b val s hruns hlock hb => ?_, fun s code => ⟨fun b h => s.bandCovers_of_bandAt_eq_some h, fun h b hb hused => ?_⟩⟩
  · rw [s.draw.2.applyWrite_PNL_BAND_of_bad _ hlock hb hbad]
    exact s.draw.2.alert_PNL_ALERT_bit_and_frame (by decide)
  · obtain ⟨hval, hrest, hregs⟩ := s.draw.2.applyWrite_PNL_BAND_of_not_bad _ hlock hb hok
    exact ⟨hval, hregs, hrest⟩
  · exact (exec_registerWrite_mgmt s _ val hruns).trans
      (congrArg Host.Outcome.next (s.draw.2.applyWrite_of_locked _ _ hlock (isLockable_PNL_BAND b hb)))
  · by_contra hcov
    exact s.not_bandCovers_of_bandAt_eq_none h hb ⟨hused, by omega⟩

end Sys2Proof.Machine
end

section
/-!
PROOFS. What the resets write in MG_RESET_CAUSE (R433): which registers an alert, a forced Midnight, a cut frame, the tests of a
start and the restored latches change, and so what each reset leaves of its cause; and O59.
-/
namespace Sys2Proof.Machine

open Sys2Proof

/-! ### Alerts and the power registers (R86, R102, R106) -/

theorem State.reg_alert_other (s : State) {a b : Nat} (i : Nat) (h : b ≠ a) : (s.alert a i).reg b = s.reg b := by
  have hregs : (s.alert a i).regs = (s.putBit a i true).regs := by unfold State.alert; split <;> rfl
  rw [State.reg_congr _ _ hregs, reg_putBit_other _ _ _ _ _ h]

theorem State.reg_alertIf_other (s : State) {a b : Nat} (c : Bool) (i : Nat) (h : b ≠ a) : (s.alertIf c a i).reg b = s.reg b := by
  unfold State.alertIf
  split
  · exact s.reg_alert_other i h
  · rfl

theorem State.reg_urgent_other (s : State) {a b : Nat} (i : Nat) (h : b ≠ a) (hsrc : b ≠ R.ALERT_SRC) :
    (s.urgent a i).reg b = s.reg b :=
  (reg_putBit_other _ _ _ _ _ hsrc).trans (s.reg_alert_other i h)

theorem State.reg_urgentBoot_other (s : State) {a b : Nat} (i : Nat) (h : b ≠ a) (hsrc : b ≠ R.ALERT_SRC) :
    (s.urgentBoot a i).reg b = s.reg b :=
  (reg_putBit_other _ _ _ _ _ hsrc).trans (s.reg_alert_other i h)

theorem State.reg_showTray_other (s : State) {b : Nat} (h : b ≠ R.PWR_STATE) : s.showTray.reg b = s.reg b :=
  reg_setFld_other _ _ _ _ _ _ h

/-- A forced Midnight writes the targets and the state of the power ladder alone. -/
theorem State.reg_forceMidnight_other (s : State) {b : Nat} (hctrl : b ≠ R.PWR_CTRL) (hstate : b ≠ R.PWR_STATE) :
    s.forceMidnight.reg b = s.reg b := by
  refine (reg_putBit_other _ _ _ _ _ hstate).trans
    (List.foldlRecOn (motive := fun t : State => t.reg b = s.reg b) _ _ rfl fun t ht d _ => ?_)
  exact (reg_putBit_other _ _ _ _ _ hstate).trans ((reg_setFld_other t _ _ _ _ _ hctrl).trans ht)

/-! ### Power-on and MRST_N (R64, R432) -/

theorem State.reg_setRasState_other (s : State) (v : Nat) {b : Nat} (hstatus : b ≠ R.RAS_STATUS) (halert : b ≠ R.ALERT_RAS) :
    (s.setRasState v).reg b = s.reg b := by
  unfold State.setRasState
  split
  · rfl
  · exact (State.reg_alert_other _ _ halert).trans (reg_setFld_other _ _ _ _ _ _ hstatus)

theorem State.reg_enterFrame_other (s : State) (l : Nat) (jump : Bool) {b : Nat} (h : b ≠ R.RAS_GEN) :
    (s.enterFrame l jump).reg b = s.reg b := by
  unfold State.enterFrame
  dsimp only
  split
  · exact reg_setFld_other _ _ _ _ _ _ h
  · rfl

theorem State.reg_modRas (s : State) (f : Raster → Raster) (b : Nat) : (s.modRas f).reg b = s.reg b := rfl

theorem State.reg_passGates (s : State) (fn : Fn) (pulse : DWord) (b : Nat) : (s.passGates fn pulse).reg b = s.reg b := by
  cases fn <;> rfl

theorem State.reg_sendPulse (s : State) (p b : Nat) : (s.sendPulse p).reg b = s.reg b := by
  rw [State.sendPulse, State.reg_passGates, State.reg_modRas]

/-- A cut frame changes the raster registers it counts and reports in alone. -/
theorem State.reg_cutFrame_other (s : State) (n per st : Nat) {b : Nat}
    (h : b ∉ [R.RAS_GEN, R.RAS_LINES, R.RAS_STATUS, R.ALERT_RAS]) : (s.cutFrame n per st).reg b = s.reg b := by
  obtain ⟨hgen, hlines, hstatus, halert⟩ : b ≠ R.RAS_GEN ∧ b ≠ R.RAS_LINES ∧ b ≠ R.RAS_STATUS ∧ b ≠ R.ALERT_RAS := by
    simpa using h
  unfold State.cutFrame
  rw [State.reg_sendPulse, State.reg_setRasState_other _ _ hstatus halert, reg_putBit_other _ _ _ _ _ hstatus,
    reg_putBit_other _ _ _ _ _ hstatus, reg_setFld_other _ _ _ _ _ _ hlines, State.reg_modRas,
    State.reg_enterFrame_other _ _ _ hgen]

theorem State.reg_mrst_MG_RESET_CAUSE (s : State) (pairSel : Bool) : (s.mrst pairSel).reg R.MG_RESET_CAUSE = 2 := by
  have hcause (r : State) : ((r.setReg R.MG_RESET_CAUSE 2).putBit R.ID_STRAPS 0 pairSel).reg R.MG_RESET_CAUSE = 2 :=
    (reg_putBit_other _ _ _ _ _ (by decide)).trans (reg_setReg_same _ _ _ (by decide))
  unfold State.mrst
  dsimp only
  split
  · exact (State.reg_cutFrame_other _ _ _ _ (by decide)).trans (hcause _)
  · exact hcause _

theorem exec_mrstNReset_of_long (s : State) {lowNs : Nat} (pairSel : Bool) (hlow : 10000 ≤ lowNs)
    (hruns : s.pwr.stopped = false ∨ s.pwr.smallHours = true) :
    exec (.mrstNReset lowNs pairSel) s = .next (s.mrst pairSel) := by
  have hlow' : ¬ lowNs < 9990 := by omega
  have hstopped : (s.pwr.stopped && !s.pwr.smallHours) = false := by
    rcases hruns with h | h <;> simp [h]
  refine congrArg Host.Outcome.next ?_
  rw [if_neg (by simp [hstopped]), if_neg hlow', if_pos hlow]

theorem exec_powerOnReset_MG_RESET_CAUSE (s : State) (pairSel : Bool) :
    ∃ t, exec (.powerOnReset pairSel) s = .next t ∧ t.reg R.MG_RESET_CAUSE = 1 := by
  have hreset : State.reset.reg R.MG_RESET_CAUSE = 1 := by decide +kernel
  exact ⟨_, rfl, (reg_putBit_other _ _ _ _ _ (by decide)).trans hreset⟩

/-! ### The release of a supply reset (R102) -/

/-- Either a supply reset is still asserted, and its release changes neither SUP_STATUS.reset nor the cause, or none is left, and
the tray recovers with cause sag_reset. -/
theorem State.releaseSupply_cases (s : State) (h : s.bit R.SUP_STATUS 1 = true) :
    (s.releaseSupply.bit R.SUP_STATUS 1 = true ∧ s.releaseSupply.reg R.MG_RESET_CAUSE = s.reg R.MG_RESET_CAUSE) ∨
      (s.releaseSupply.bit R.SUP_STATUS 1 = false ∧ s.releaseSupply.reg R.MG_RESET_CAUSE = 4) := by
  unfold State.releaseSupply
  dsimp only
  split
  · refine .inl ⟨?_, reg_putBit_other _ _ _ _ _ (by decide)⟩
    exact (bit_putBit _ _ _ _ _ _ (by decide) (by decide)).trans h
  · refine .inr ⟨?_, ?_⟩
    · rw [State.bit, State.reg_forceMidnight_other _ (by decide) (by decide), reg_setReg_other _ _ _ _ (by decide),
        State.reg_alert_other _ _ (by decide), reg_putBit_other _ _ _ _ _ (by decide), ← State.bit,
        bit_putBit _ _ _ _ _ _ (by decide) (by decide), if_neg (by decide), bit_putBit _ _ _ _ _ _ (by decide) (by decide),
        if_pos ⟨rfl, rfl⟩]
    · rw [State.reg_forceMidnight_other _ (by decide) (by decide), reg_setReg_same _ _ _ (by decide)]

/-! ### The tests of a start and the restored latches (R401, R404, R440, R441) -/

theorem State.reg_startTests_other (s : State) (lockstepOk clockOk : Bool) {b : Nat}
    (h : b ∉ [R.SAF_DIAG, R.SAF_CAUSE, R.SAF_ALERT]) : (s.startTests lockstepOk clockOk).reg b = s.reg b := by
  obtain ⟨hdiag, hcause, halert⟩ : b ≠ R.SAF_DIAG ∧ b ≠ R.SAF_CAUSE ∧ b ≠ R.SAF_ALERT := by simpa using h
  have hfailed (t : State) (ok : Bool) (i : Nat) : (if ok then t else t.putBit R.SAF_CAUSE i true).reg b = t.reg b := by
    split
    · rfl
    · exact reg_putBit_other _ _ _ _ _ hcause
  calc (s.startTests lockstepOk clockOk).reg b
    _ = _ := State.reg_alertIf_other _ _ _ halert
    _ = _ := hfailed _ clockOk 5
    _ = _ := hfailed _ lockstepOk 3
    _ = _ := reg_putBit_other _ _ _ _ _ hdiag
    _ = _ := reg_putBit_other _ _ _ _ _ hdiag

theorem State.reg_scanLog_other (s : State) {b : Nat} (hcount : b ≠ R.LOG_COUNT) (hhead : b ≠ R.LOG_HEAD) :
    s.scanLog.reg b = s.reg b := by
  have hcounted (n : Nat) : (s.setFld R.LOG_COUNT 11 0 n).reg b = s.reg b := reg_setFld_other _ _ _ _ _ _ hcount
  unfold State.scanLog
  dsimp only
  split
  · exact (reg_setReg_other _ _ _ _ hhead).trans (hcounted _)
  · exact (reg_putBit_other _ _ _ _ _ hhead).trans ((reg_setFld_other _ _ _ _ _ _ hhead).trans (hcounted _))

theorem State.reg_with_tm_pwr (s : State) (tm : Tidemark) (pwr : Power) (b : Nat) :
    ({ s with tm := tm, pwr := pwr } : State).reg b = s.reg b := rfl

theorem State.reg_restoreTrip_other (s : State) {b : Nat}
    (h : b ∉ [R.THM_STATUS, R.THM_TRIP_CAUSE, R.PWR_STATE, R.SAF_CAUSE, R.THM_ALERT, R.ALERT_SRC]) :
    s.restoreTrip.reg b = s.reg b := by
  obtain ⟨hstatus, htrip, hpwr, hcause, halert, hsrc⟩ : b ≠ R.THM_STATUS ∧ b ≠ R.THM_TRIP_CAUSE ∧ b ≠ R.PWR_STATE ∧
    b ≠ R.SAF_CAUSE ∧ b ≠ R.THM_ALERT ∧ b ≠ R.ALERT_SRC := by simpa using h
  unfold State.restoreTrip
  dsimp only
  split
  · split
    · rw [State.reg_with_tm_pwr, State.reg_urgentBoot_other _ _ halert hsrc, reg_putBit_other _ _ _ _ _ hcause,
        reg_putBit_other _ _ _ _ _ hpwr, reg_setReg_other _ _ _ _ htrip, reg_putBit_other _ _ _ _ _ hstatus, reg_putBit_other _ _ _ _ _ hstatus]
    · rfl
  · rfl

theorem State.reg_restoreHv_other (s : State) {b : Nat}
    (h : b ∉ [R.HV_FAULT, R.HV_STATUS, R.SAF_CAUSE, R.HV_ALERT, R.ALERT_SRC]) : s.restoreHv.reg b = s.reg b := by
  obtain ⟨hfault, hstatus, hcause, halert, hsrc⟩ : b ≠ R.HV_FAULT ∧ b ≠ R.HV_STATUS ∧ b ≠ R.SAF_CAUSE ∧ b ≠ R.HV_ALERT ∧
    b ≠ R.ALERT_SRC := by simpa using h
  unfold State.restoreHv
  dsimp only
  split
  · split
    · rw [State.reg_with_tm_pwr, State.reg_urgentBoot_other _ _ halert hsrc, reg_putBit_other _ _ _ _ _ hcause, State.setHvState,
        reg_setFld_other _ _ _ _ _ _ hstatus, reg_setReg_other _ _ _ _ hfault]
    · rfl
  · rfl

theorem State.reg_restoreSafety_other (s : State) {b : Nat} (h : b ≠ R.SAF_CAUSE) : s.restoreSafety.reg b = s.reg b := by
  unfold State.restoreSafety
  dsimp only
  split
  · split
    · rfl
    · exact reg_setFld_other _ _ _ _ _ _ h
  · rfl

/-- The reset cause is no latch: the restoration from Tidemark leaves it. -/
theorem State.reg_restoreLatches_MG_RESET_CAUSE (s : State) : s.restoreLatches.reg R.MG_RESET_CAUSE = s.reg R.MG_RESET_CAUSE :=
  calc s.restoreLatches.reg R.MG_RESET_CAUSE
    _ = _ := State.reg_restoreSafety_other _ (by decide)
    _ = _ := State.reg_restoreHv_other _ (by decide)
    _ = _ := State.reg_restoreTrip_other _ (by decide)
    _ = _ := s.reg_scanLog_other (by decide) (by decide)

/-! ### The restart into SAFE (R396, R433) -/

/-- The cause of a SAFE restart as MG_RESET_CAUSE shows it: bit 4 for lockstep, bit 3 for watchdog. -/
def restartCauseWord (restart : Nat) : Word :=
  BitVec.ofNat 32 (16 * b2n (restart.testBit 3) + 8 * b2n (restart.testBit 4))

theorem bitAt_restartCauseWord (restart i : Nat) : bitAt (restartCauseWord restart) i =
    if i = 4 then restart.testBit 3 else if i = 3 then restart.testBit 4 else false := by
  have hbits : ∀ i < 32, ∀ lockstep watchdog : Bool, bitAt (BitVec.ofNat 32 (16 * b2n lockstep + 8 * b2n watchdog)) i =
      if i = 4 then lockstep else if i = 3 then watchdog else false := by decide
  by_cases hi : i < 32
  · exact hbits i hi _ _
  · rw [if_neg (by omega), if_neg (by omega)]
    exact BitVec.getLsbD_of_ge _ _ (by omega)

/-- The end of a SAFE restart: the causes are shown, the tray is in SAFE, and the restart is recorded and alerted (R394, R396). -/
def State.enterSafe (s : State) (restart old pixels missed : Nat) : State :=
  let s := s.setFld R.SAF_CAUSE 14 0 (s.fld R.SAF_CAUSE 14 0 ||| restart)
  let c := s.fld R.SAF_CAUSE 14 0
  let s := (s.setReg R.SAF_STATE 0xF#32).setFld R.MG_STATE 2 0 3
  let s : State := { s with saf := { s.saf with lastCauses := c } }
  let s := (s.restartRecord old pixels missed restart).urgent R.SAF_ALERT 0
  let s := s.alertIf (restart.testBit 3 || restart.testBit 5) R.SAF_ALERT 2
  s.forceMidnight.showTray

/-- A SAFE restart records its cause, then tests, restores the latches and enters SAFE. -/
theorem State.safeRestart_eq_enterSafe (s : State) (lockstepOk clockOk : Bool) :
    ∃ r : State, s.safeRestart lockstepOk clockOk =
      (((r.setReg R.MG_RESET_CAUSE (restartCauseWord s.saf.restart)).startTests lockstepOk clockOk).restoreLatches).enterSafe
        s.saf.restart (s.fld R.SAF_STATE 1 0) s.inFlight s.saf.missed := by
  unfold State.safeRestart State.enterSafe restartCauseWord
  exact ⟨_, rfl⟩

theorem State.reg_restartRecord (s : State) (old pixels missed restart b : Nat) :
    (s.restartRecord old pixels missed restart).reg b = s.reg b := rfl

theorem State.reg_with_saf (s : State) (saf : Safety) (b : Nat) : ({ s with saf := saf } : State).reg b = s.reg b := rfl

/-- After the causes are shown, entering SAFE writes its own registers alone. -/
theorem State.reg_enterSafe_other (s : State) (restart old pixels missed : Nat) {b : Nat}
    (h : b ∉ [R.SAF_STATE, R.MG_STATE, R.SAF_ALERT, R.ALERT_SRC, R.PWR_CTRL, R.PWR_STATE]) :
    (s.enterSafe restart old pixels missed).reg b =
      (s.setFld R.SAF_CAUSE 14 0 (s.fld R.SAF_CAUSE 14 0 ||| restart)).reg b := by
  obtain ⟨hstate, hmg, halert, hsrc, hctrl, hpwr⟩ : b ≠ R.SAF_STATE ∧ b ≠ R.MG_STATE ∧ b ≠ R.SAF_ALERT ∧ b ≠ R.ALERT_SRC ∧
    b ≠ R.PWR_CTRL ∧ b ≠ R.PWR_STATE := by simpa using h
  unfold State.enterSafe
  rw [State.reg_showTray_other _ hpwr, State.reg_forceMidnight_other _ hctrl hpwr, State.reg_alertIf_other _ _ _ halert,
    State.reg_urgent_other _ _ halert hsrc, State.reg_restartRecord, State.reg_with_saf, reg_setFld_other _ _ _ _ _ _ hmg,
    reg_setReg_other _ _ _ _ hstate]

theorem State.reg_safeRestart_MG_RESET_CAUSE (s : State) (lockstepOk clockOk : Bool) :
    (s.safeRestart lockstepOk clockOk).reg R.MG_RESET_CAUSE = restartCauseWord s.saf.restart := by
  obtain ⟨r, hr⟩ := s.safeRestart_eq_enterSafe lockstepOk clockOk
  rw [hr, State.reg_enterSafe_other _ _ _ _ _ (by decide), reg_setFld_other _ _ _ _ _ _ (by decide),
    State.reg_restoreLatches_MG_RESET_CAUSE, State.reg_startTests_other _ _ _ (by decide), reg_setReg_same _ _ _ (by decide)]

/-- Every cause of the restart is set in SAF_CAUSE, whatever the restored latches say. -/
theorem State.bit_safeRestart_SAF_CAUSE (s : State) (lockstepOk clockOk : Bool) {i : Nat} (hi : i < 15)
    (h : s.saf.restart.testBit i = true) : (s.safeRestart lockstepOk clockOk).bit R.SAF_CAUSE i = true := by
  obtain ⟨r, hr⟩ := s.safeRestart_eq_enterSafe lockstepOk clockOk
  rw [hr, State.bit, State.reg_enterSafe_other _ _ _ _ _ (by decide), State.setFld, reg_setReg_same _ _ _ (by decide), bitAt,
    getLsbD_setField]
  simp [h, hi, show i < 32 by omega]

theorem exec_safeRestart_of_cause (s : State) (lockstepOk clockOk : Bool) (hcause : s.saf.restart ≠ 0)
    (hruns : s.pwr.stopped = false) : exec (.safeRestart lockstepOk clockOk) s = .next (s.safeRestart lockstepOk clockOk) :=
  congrArg Host.Outcome.next (if_neg (by simp [hcause, hruns]))

/-- Settles O59: each reset writes its own cause, and nothing that the reset still does touches MG_RESET_CAUSE; a SAFE restart has
a bit there for lockstep and for watchdog alone, and adds its causes to SAF_CAUSE after the latches are restored. -/
theorem resetCausesAreRecorded : Obligations.ResetCausesAreRecorded := by
  refine ⟨fun pairSel s => exec_powerOnReset_MG_RESET_CAUSE s pairSel,
    fun lowNs pairSel s hlow hruns => ⟨_, exec_mrstNReset_of_long s pairSel hlow hruns, s.reg_mrst_MG_RESET_CAUSE pairSel⟩,
    fun s hruns hreset => ⟨s.releaseSupply, congrArg Host.Outcome.next (if_pos hruns), ?_⟩,
    fun lockstepOk clockOk s hcause hruns => ⟨_, exec_safeRestart_of_cause s lockstepOk clockOk hcause hruns, ?_⟩⟩
  · rcases s.releaseSupply_cases hreset with ⟨hbit, hcause⟩ | ⟨hbit, hcause⟩ <;> simp [hbit, hcause]
  · have hbit (i : Nat) : (s.safeRestart lockstepOk clockOk).bit R.MG_RESET_CAUSE i =
        if i = 4 then s.saf.restart.testBit 3 else if i = 3 then s.saf.restart.testBit 4 else false := by
      rw [State.bit, s.reg_safeRestart_MG_RESET_CAUSE, bitAt_restartCauseWord]
    refine ⟨hbit 4, hbit 3, fun i hi3 hi4 => ?_, s.bit_safeRestart_SAF_CAUSE _ _ (by decide)⟩
    rw [hbit i, if_neg hi4, if_neg hi3]

end Sys2Proof.Machine
end
